-- ==== Sys2Proof/Word.lean ====
section
/-! DEFINITION. The word types of the rgba CORE (spec/00_scope.md rules R8 `XLEN`, R9). -/

namespace Sys2Proof

/-- One byte of memory (20_memory.md R70). -/
abbrev Byte := BitVec 8

/-- A halfword: a compressed-mode instruction, a device register (30_encoding.md R120, 20_memory.md R85). -/
abbrev Half := BitVec 16

/-- A 32-bit word: register contents, addresses, 32-bit-mode instructions (`XLEN` = 32, 00_scope.md R8). -/
abbrev Word := BitVec 32

/-- A four-bit register number, 0 to 15 (10_state.md R21). -/
abbrev Reg := BitVec 4

/-- A three-bit register field of compressed mode: r0 to r7 (47_thumb_alu.md R300). -/
abbrev LowReg := BitVec 3

end Sys2Proof
end

