-- ==== Sys2Proof/Syntax.lean ====
section
/-! DEFINITION. The abstract syntax: ONE inductive `Instr`, one constructor per row of spec/opcode_table.json
(30_encoding.md R122 to R131, R136). A field holds the bits the encoding gives it; a scaled displacement of a branch or
of a compressed-mode access is held already multiplied out (30_encoding.md R126, R130), and `Instr.wf` asks that its low bits
are zero. Bits the decoder ignores are no fields. -/

namespace Sys2Proof

/-- The sixteen condition codes (40_execution_common.md R161). -/
inductive Cond where
  | eq | ne | cs | cc | mi | pl | vs | vc | hi | ls | ge | lt | gt | le | al
  /-- 1111, reserved: never holds (30_encoding.md R132, decision D32). -/
  | nv
  deriving DecidableEq, Repr

/-- The four shift types (30_encoding.md R123). -/
inductive ShiftType where
  | lsl | lsr | asr | ror
  deriving DecidableEq, Repr

/-- The instructions of both instruction sets. A constructor of compressed mode begins with `t`.
Field names: `c` condition, `sf` the S (set flags) bit, `rn rd rs rm rb ro` registers, `p u w` the addressing bits P, U, W,
`sbit` the S bit of a block transfer, `list` a register list (bit i for register i). -/
inductive Instr where
  /-- AND (immediate operand), format A1 (41_data_processing.md R202). -/
  | andImm (c : Cond) (sf : Bool) (rn rd : Reg) (rot : BitVec 4) (imm8 : BitVec 8)
  /-- AND (register, shift by immediate), format A2 (41_data_processing.md R202). -/
  | andShImm (c : Cond) (sf : Bool) (rn rd : Reg) (shamt : BitVec 5) (ty : ShiftType) (rm : Reg)
  /-- AND (register, shift by register), format A3 (41_data_processing.md R202). -/
  | andShReg (c : Cond) (sf : Bool) (rn rd rs : Reg) (ty : ShiftType) (rm : Reg)
  /-- EOR (immediate operand), format A1 (41_data_processing.md R203). -/
  | eorImm (c : Cond) (sf : Bool) (rn rd : Reg) (rot : BitVec 4) (imm8 : BitVec 8)
  /-- EOR (register, shift by immediate), format A2 (41_data_processing.md R203). -/
  | eorShImm (c : Cond) (sf : Bool) (rn rd : Reg) (shamt : BitVec 5) (ty : ShiftType) (rm : Reg)
  /-- EOR (register, shift by register), format A3 (41_data_processing.md R203). -/
  | eorShReg (c : Cond) (sf : Bool) (rn rd rs : Reg) (ty : ShiftType) (rm : Reg)
  /-- SUB (immediate operand), format A1 (41_data_processing.md R204). -/
  | subImm (c : Cond) (sf : Bool) (rn rd : Reg) (rot : BitVec 4) (imm8 : BitVec 8)
  /-- SUB (register, shift by immediate), format A2 (41_data_processing.md R204). -/
  | subShImm (c : Cond) (sf : Bool) (rn rd : Reg) (shamt : BitVec 5) (ty : ShiftType) (rm : Reg)
  /-- SUB (register, shift by register), format A3 (41_data_processing.md R204). -/
  | subShReg (c : Cond) (sf : Bool) (rn rd rs : Reg) (ty : ShiftType) (rm : Reg)
  /-- RSB (immediate operand), format A1 (41_data_processing.md R205). -/
  | rsbImm (c : Cond) (sf : Bool) (rn rd : Reg) (rot : BitVec 4) (imm8 : BitVec 8)
  /-- RSB (register, shift by immediate), format A2 (41_data_processing.md R205). -/
  | rsbShImm (c : Cond) (sf : Bool) (rn rd : Reg) (shamt : BitVec 5) (ty : ShiftType) (rm : Reg)
  /-- RSB (register, shift by register), format A3 (41_data_processing.md R205). -/
  | rsbShReg (c : Cond) (sf : Bool) (rn rd rs : Reg) (ty : ShiftType) (rm : Reg)
  /-- ADD (immediate operand), format A1 (41_data_processing.md R206). -/
  | addImm (c : Cond) (sf : Bool) (rn rd : Reg) (rot : BitVec 4) (imm8 : BitVec 8)
  /-- ADD (register, shift by immediate), format A2 (41_data_processing.md R206). -/
  | addShImm (c : Cond) (sf : Bool) (rn rd : Reg) (shamt : BitVec 5) (ty : ShiftType) (rm : Reg)
  /-- ADD (register, shift by register), format A3 (41_data_processing.md R206). -/
  | addShReg (c : Cond) (sf : Bool) (rn rd rs : Reg) (ty : ShiftType) (rm : Reg)
  /-- ADC (immediate operand), format A1 (41_data_processing.md R207). -/
  | adcImm (c : Cond) (sf : Bool) (rn rd : Reg) (rot : BitVec 4) (imm8 : BitVec 8)
  /-- ADC (register, shift by immediate), format A2 (41_data_processing.md R207). -/
  | adcShImm (c : Cond) (sf : Bool) (rn rd : Reg) (shamt : BitVec 5) (ty : ShiftType) (rm : Reg)
  /-- ADC (register, shift by register), format A3 (41_data_processing.md R207). -/
  | adcShReg (c : Cond) (sf : Bool) (rn rd rs : Reg) (ty : ShiftType) (rm : Reg)
  /-- SBC (immediate operand), format A1 (41_data_processing.md R208). -/
  | sbcImm (c : Cond) (sf : Bool) (rn rd : Reg) (rot : BitVec 4) (imm8 : BitVec 8)
  /-- SBC (register, shift by immediate), format A2 (41_data_processing.md R208). -/
  | sbcShImm (c : Cond) (sf : Bool) (rn rd : Reg) (shamt : BitVec 5) (ty : ShiftType) (rm : Reg)
  /-- SBC (register, shift by register), format A3 (41_data_processing.md R208). -/
  | sbcShReg (c : Cond) (sf : Bool) (rn rd rs : Reg) (ty : ShiftType) (rm : Reg)
  /-- RSC (immediate operand), format A1 (41_data_processing.md R209). -/
  | rscImm (c : Cond) (sf : Bool) (rn rd : Reg) (rot : BitVec 4) (imm8 : BitVec 8)
  /-- RSC (register, shift by immediate), format A2 (41_data_processing.md R209). -/
  | rscShImm (c : Cond) (sf : Bool) (rn rd : Reg) (shamt : BitVec 5) (ty : ShiftType) (rm : Reg)
  /-- RSC (register, shift by register), format A3 (41_data_processing.md R209). -/
  | rscShReg (c : Cond) (sf : Bool) (rn rd rs : Reg) (ty : ShiftType) (rm : Reg)
  /-- TST (immediate operand), format A1 (41_data_processing.md R210). -/
  | tstImm (c : Cond) (rn : Reg) (rot : BitVec 4) (imm8 : BitVec 8)
  /-- TST (register, shift by immediate), format A2 (41_data_processing.md R210). -/
  | tstShImm (c : Cond) (rn : Reg) (shamt : BitVec 5) (ty : ShiftType) (rm : Reg)
  /-- TST (register, shift by register), format A3 (41_data_processing.md R210). -/
  | tstShReg (c : Cond) (rn rs : Reg) (ty : ShiftType) (rm : Reg)
  /-- TEQ (immediate operand), format A1 (41_data_processing.md R211). -/
  | teqImm (c : Cond) (rn : Reg) (rot : BitVec 4) (imm8 : BitVec 8)
  /-- TEQ (register, shift by immediate), format A2 (41_data_processing.md R211). -/
  | teqShImm (c : Cond) (rn : Reg) (shamt : BitVec 5) (ty : ShiftType) (rm : Reg)
  /-- TEQ (register, shift by register), format A3 (41_data_processing.md R211). -/
  | teqShReg (c : Cond) (rn rs : Reg) (ty : ShiftType) (rm : Reg)
  /-- CMP (immediate operand), format A1 (41_data_processing.md R212). -/
  | cmpImm (c : Cond) (rn : Reg) (rot : BitVec 4) (imm8 : BitVec 8)
  /-- CMP (register, shift by immediate), format A2 (41_data_processing.md R212). -/
  | cmpShImm (c : Cond) (rn : Reg) (shamt : BitVec 5) (ty : ShiftType) (rm : Reg)
  /-- CMP (register, shift by register), format A3 (41_data_processing.md R212). -/
  | cmpShReg (c : Cond) (rn rs : Reg) (ty : ShiftType) (rm : Reg)
  /-- CMN (immediate operand), format A1 (41_data_processing.md R213). -/
  | cmnImm (c : Cond) (rn : Reg) (rot : BitVec 4) (imm8 : BitVec 8)
  /-- CMN (register, shift by immediate), format A2 (41_data_processing.md R213). -/
  | cmnShImm (c : Cond) (rn : Reg) (shamt : BitVec 5) (ty : ShiftType) (rm : Reg)
  /-- CMN (register, shift by register), format A3 (41_data_processing.md R213). -/
  | cmnShReg (c : Cond) (rn rs : Reg) (ty : ShiftType) (rm : Reg)
  /-- ORR (immediate operand), format A1 (41_data_processing.md R214). -/
  | orrImm (c : Cond) (sf : Bool) (rn rd : Reg) (rot : BitVec 4) (imm8 : BitVec 8)
  /-- ORR (register, shift by immediate), format A2 (41_data_processing.md R214). -/
  | orrShImm (c : Cond) (sf : Bool) (rn rd : Reg) (shamt : BitVec 5) (ty : ShiftType) (rm : Reg)
  /-- ORR (register, shift by register), format A3 (41_data_processing.md R214). -/
  | orrShReg (c : Cond) (sf : Bool) (rn rd rs : Reg) (ty : ShiftType) (rm : Reg)
  /-- MOV (immediate operand), format A1 (41_data_processing.md R215). -/
  | movImm (c : Cond) (sf : Bool) (rd : Reg) (rot : BitVec 4) (imm8 : BitVec 8)
  /-- MOV (register, shift by immediate), format A2 (41_data_processing.md R215). -/
  | movShImm (c : Cond) (sf : Bool) (rd : Reg) (shamt : BitVec 5) (ty : ShiftType) (rm : Reg)
  /-- MOV (register, shift by register), format A3 (41_data_processing.md R215). -/
  | movShReg (c : Cond) (sf : Bool) (rd rs : Reg) (ty : ShiftType) (rm : Reg)
  /-- BIC (immediate operand), format A1 (41_data_processing.md R216). -/
  | bicImm (c : Cond) (sf : Bool) (rn rd : Reg) (rot : BitVec 4) (imm8 : BitVec 8)
  /-- BIC (register, shift by immediate), format A2 (41_data_processing.md R216). -/
  | bicShImm (c : Cond) (sf : Bool) (rn rd : Reg) (shamt : BitVec 5) (ty : ShiftType) (rm : Reg)
  /-- BIC (register, shift by register), format A3 (41_data_processing.md R216). -/
  | bicShReg (c : Cond) (sf : Bool) (rn rd rs : Reg) (ty : ShiftType) (rm : Reg)
  /-- MVN (immediate operand), format A1 (41_data_processing.md R217). -/
  | mvnImm (c : Cond) (sf : Bool) (rd : Reg) (rot : BitVec 4) (imm8 : BitVec 8)
  /-- MVN (register, shift by immediate), format A2 (41_data_processing.md R217). -/
  | mvnShImm (c : Cond) (sf : Bool) (rd : Reg) (shamt : BitVec 5) (ty : ShiftType) (rm : Reg)
  /-- MVN (register, shift by register), format A3 (41_data_processing.md R217). -/
  | mvnShReg (c : Cond) (sf : Bool) (rd rs : Reg) (ty : ShiftType) (rm : Reg)
  /-- MRS, format A4 (45_status_transfer.md R280). -/
  | mrs (c : Cond) (p : Bool) (rd : Reg)
  /-- MSR (register), format A5 (45_status_transfer.md R282). -/
  | msrReg (c : Cond) (p : Bool) (fields : BitVec 4) (rm : Reg)
  /-- MSR (immediate), format A6 (45_status_transfer.md R283). -/
  | msrImm (c : Cond) (p : Bool) (fields rot : BitVec 4) (imm8 : BitVec 8)
  /-- BX, format A7 (44_branch.md R272). -/
  | bx (c : Cond) (rm : Reg)
  /-- LDR (immediate offset), format A8 (42_single_transfer.md R232). -/
  | ldrImm (c : Cond) (p u w : Bool) (rn rd : Reg) (off : BitVec 12)
  /-- LDR (register offset), format A9 (42_single_transfer.md R232). -/
  | ldrReg (c : Cond) (p u w : Bool) (rn rd : Reg) (shamt : BitVec 5) (ty : ShiftType) (rm : Reg)
  /-- STR (immediate offset), format A8 (42_single_transfer.md R233). -/
  | strImm (c : Cond) (p u w : Bool) (rn rd : Reg) (off : BitVec 12)
  /-- STR (register offset), format A9 (42_single_transfer.md R233). -/
  | strReg (c : Cond) (p u w : Bool) (rn rd : Reg) (shamt : BitVec 5) (ty : ShiftType) (rm : Reg)
  /-- LDRB (immediate offset), format A8 (42_single_transfer.md R235). -/
  | ldrbImm (c : Cond) (p u w : Bool) (rn rd : Reg) (off : BitVec 12)
  /-- LDRB (register offset), format A9 (42_single_transfer.md R235). -/
  | ldrbReg (c : Cond) (p u w : Bool) (rn rd : Reg) (shamt : BitVec 5) (ty : ShiftType) (rm : Reg)
  /-- STRB (immediate offset), format A8 (42_single_transfer.md R236). -/
  | strbImm (c : Cond) (p u w : Bool) (rn rd : Reg) (off : BitVec 12)
  /-- STRB (register offset), format A9 (42_single_transfer.md R236). -/
  | strbReg (c : Cond) (p u w : Bool) (rn rd : Reg) (shamt : BitVec 5) (ty : ShiftType) (rm : Reg)
  /-- UNDEFINED (architecturally undefined space), format A13 (46_swi_undefined.md R296). -/
  | undefArch (c : Cond)
  /-- LDM, format A10 (43_block_transfer.md R253). -/
  | ldm (c : Cond) (p u sbit w : Bool) (rn : Reg) (list : BitVec 16)
  /-- STM, format A10 (43_block_transfer.md R252). -/
  | stm (c : Cond) (p u sbit w : Bool) (rn : Reg) (list : BitVec 16)
  /-- B, format A11 (44_branch.md R270). -/
  | b (c : Cond) (off : BitVec 26)
  /-- BL, format A11 (44_branch.md R271). -/
  | bl (c : Cond) (off : BitVec 26)
  /-- UNDEFINED (coprocessor data transfer space), format A19 (46_swi_undefined.md R296). -/
  | undefCopTransfer (c : Cond)
  /-- UNDEFINED (coprocessor operation and register transfer space), format A20 (46_swi_undefined.md R296). -/
  | undefCopOp (c : Cond)
  /-- SWI, format A12 (46_swi_undefined.md R290). -/
  | swi (c : Cond) (comment : BitVec 24)
  /-- MUL, format A14 (49_unlisted_families.md R401). -/
  | mul (c : Cond) (sf : Bool) (rd rs rm : Reg)
  /-- MLA, format A14 (49_unlisted_families.md R402). -/
  | mla (c : Cond) (sf : Bool) (rd rn rs rm : Reg)
  /-- UMULL, format A15 (49_unlisted_families.md R403). -/
  | umull (c : Cond) (sf : Bool) (rdHi rdLo rs rm : Reg)
  /-- UMLAL, format A15 (49_unlisted_families.md R404). -/
  | umlal (c : Cond) (sf : Bool) (rdHi rdLo rs rm : Reg)
  /-- SMULL, format A15 (49_unlisted_families.md R405). -/
  | smull (c : Cond) (sf : Bool) (rdHi rdLo rs rm : Reg)
  /-- SMLAL, format A15 (49_unlisted_families.md R406). -/
  | smlal (c : Cond) (sf : Bool) (rdHi rdLo rs rm : Reg)
  /-- SWP, format A16 (49_unlisted_families.md R407). -/
  | swp (c : Cond) (rn rd rm : Reg)
  /-- SWPB, format A16 (49_unlisted_families.md R408). -/
  | swpb (c : Cond) (rn rd rm : Reg)
  /-- STRH (register offset), format A17 (49_unlisted_families.md R418). -/
  | strhReg (c : Cond) (p u w : Bool) (rn rd rm : Reg)
  /-- STRH (immediate offset), format A18 (49_unlisted_families.md R418). -/
  | strhImm (c : Cond) (p u w : Bool) (rn rd : Reg) (off : BitVec 8)
  /-- LDRH (register offset), format A17 (49_unlisted_families.md R419). -/
  | ldrhReg (c : Cond) (p u w : Bool) (rn rd rm : Reg)
  /-- LDRH (immediate offset), format A18 (49_unlisted_families.md R419). -/
  | ldrhImm (c : Cond) (p u w : Bool) (rn rd : Reg) (off : BitVec 8)
  /-- LDRSB (register offset), format A17 (49_unlisted_families.md R420). -/
  | ldrsbReg (c : Cond) (p u w : Bool) (rn rd rm : Reg)
  /-- LDRSB (immediate offset), format A18 (49_unlisted_families.md R420). -/
  | ldrsbImm (c : Cond) (p u w : Bool) (rn rd : Reg) (off : BitVec 8)
  /-- LDRSH (register offset), format A17 (49_unlisted_families.md R421). -/
  | ldrshReg (c : Cond) (p u w : Bool) (rn rd rm : Reg)
  /-- LDRSH (immediate offset), format A18 (49_unlisted_families.md R421). -/
  | ldrshImm (c : Cond) (p u w : Bool) (rn rd : Reg) (off : BitVec 8)
  /-- UNDEFINED (bits 6:5 = 1x with L = 0; doubleword transfers of later architectures), format A17 (46_swi_undefined.md R296). -/
  | undefDoubleword (c : Cond)
  /-- LSL (immediate), format T1 (47_thumb_alu.md R303). -/
  | tLslImm (rd rs : LowReg) (off5 : BitVec 5)
  /-- LSR (immediate), format T1 (47_thumb_alu.md R304). -/
  | tLsrImm (rd rs : LowReg) (off5 : BitVec 5)
  /-- ASR (immediate), format T1 (47_thumb_alu.md R305). -/
  | tAsrImm (rd rs : LowReg) (off5 : BitVec 5)
  /-- ADD (three registers), format T2 (47_thumb_alu.md R306). -/
  | tAddReg (rd rs rn : LowReg)
  /-- SUB (three registers), format T2 (47_thumb_alu.md R307). -/
  | tSubReg (rd rs rn : LowReg)
  /-- ADD (3-bit immediate), format T2 (47_thumb_alu.md R308). -/
  | tAddImm3 (rd rs : LowReg) (imm3 : BitVec 3)
  /-- SUB (3-bit immediate), format T2 (47_thumb_alu.md R309). -/
  | tSubImm3 (rd rs : LowReg) (imm3 : BitVec 3)
  /-- MOV (8-bit immediate), format T3 (47_thumb_alu.md R310). -/
  | tMovImm8 (rd : LowReg) (imm8 : BitVec 8)
  /-- CMP (8-bit immediate), format T3 (47_thumb_alu.md R311). -/
  | tCmpImm8 (rd : LowReg) (imm8 : BitVec 8)
  /-- ADD (8-bit immediate), format T3 (47_thumb_alu.md R312). -/
  | tAddImm8 (rd : LowReg) (imm8 : BitVec 8)
  /-- SUB (8-bit immediate), format T3 (47_thumb_alu.md R313). -/
  | tSubImm8 (rd : LowReg) (imm8 : BitVec 8)
  /-- AND (register), format T4 (47_thumb_alu.md R314). -/
  | tAnd (rd rs : LowReg)
  /-- EOR (register), format T4 (47_thumb_alu.md R315). -/
  | tEor (rd rs : LowReg)
  /-- LSL (register), format T4 (47_thumb_alu.md R316). -/
  | tLsl (rd rs : LowReg)
  /-- LSR (register), format T4 (47_thumb_alu.md R317). -/
  | tLsr (rd rs : LowReg)
  /-- ASR (register), format T4 (47_thumb_alu.md R318). -/
  | tAsr (rd rs : LowReg)
  /-- ADC (register), format T4 (47_thumb_alu.md R319). -/
  | tAdc (rd rs : LowReg)
  /-- SBC (register), format T4 (47_thumb_alu.md R320). -/
  | tSbc (rd rs : LowReg)
  /-- ROR (register), format T4 (47_thumb_alu.md R321). -/
  | tRor (rd rs : LowReg)
  /-- TST (register), format T4 (47_thumb_alu.md R322). -/
  | tTst (rd rs : LowReg)
  /-- NEG (register), format T4 (47_thumb_alu.md R323). -/
  | tNeg (rd rs : LowReg)
  /-- CMP (register), format T4 (47_thumb_alu.md R324). -/
  | tCmp (rd rs : LowReg)
  /-- CMN (register), format T4 (47_thumb_alu.md R325). -/
  | tCmn (rd rs : LowReg)
  /-- ORR (register), format T4 (47_thumb_alu.md R326). -/
  | tOrr (rd rs : LowReg)
  /-- MUL (register), format T4 (49_unlisted_families.md R411). -/
  | tMul (rd rs : LowReg)
  /-- BIC (register), format T4 (47_thumb_alu.md R327). -/
  | tBic (rd rs : LowReg)
  /-- MVN (register), format T4 (47_thumb_alu.md R328). -/
  | tMvn (rd rs : LowReg)
  /-- ADD (high registers), format T5 (47_thumb_alu.md R329). -/
  | tAddHi (rd rs : Reg)
  /-- CMP (high registers), format T5 (47_thumb_alu.md R330). -/
  | tCmpHi (rd rs : Reg)
  /-- MOV (high registers), format T5 (47_thumb_alu.md R331). -/
  | tMovHi (rd rs : Reg)
  /-- BX, format T5 (47_thumb_alu.md R332). -/
  | tBx (rs : Reg)
  /-- UNDEFINED (BX with H1 = 1; BLX of later architectures), format T5 (46_swi_undefined.md R296). -/
  | tUndefBxH1
  /-- LDR (PC-relative), format T6 (48_thumb_mem_branch.md R350). -/
  | tLdrPc (rd : LowReg) (off : BitVec 10)
  /-- STR (register offset), format T7 (48_thumb_mem_branch.md R351). -/
  | tStrReg (rd rb ro : LowReg)
  /-- STRB (register offset), format T7 (48_thumb_mem_branch.md R352). -/
  | tStrbReg (rd rb ro : LowReg)
  /-- LDR (register offset), format T7 (48_thumb_mem_branch.md R353). -/
  | tLdrReg (rd rb ro : LowReg)
  /-- LDRB (register offset), format T7 (48_thumb_mem_branch.md R354). -/
  | tLdrbReg (rd rb ro : LowReg)
  /-- STRH (register offset), format T8 (49_unlisted_families.md R412). -/
  | tStrhReg (rd rb ro : LowReg)
  /-- LDSB (register offset), format T8 (49_unlisted_families.md R414). -/
  | tLdsbReg (rd rb ro : LowReg)
  /-- LDRH (register offset), format T8 (49_unlisted_families.md R413). -/
  | tLdrhReg (rd rb ro : LowReg)
  /-- LDSH (register offset), format T8 (49_unlisted_families.md R415). -/
  | tLdshReg (rd rb ro : LowReg)
  /-- STR (immediate offset), format T9 (48_thumb_mem_branch.md R355). -/
  | tStrImm (rd rb : LowReg) (off : BitVec 7)
  /-- LDR (immediate offset), format T9 (48_thumb_mem_branch.md R356). -/
  | tLdrImm (rd rb : LowReg) (off : BitVec 7)
  /-- STRB (immediate offset), format T9 (48_thumb_mem_branch.md R357). -/
  | tStrbImm (rd rb : LowReg) (off : BitVec 5)
  /-- LDRB (immediate offset), format T9 (48_thumb_mem_branch.md R358). -/
  | tLdrbImm (rd rb : LowReg) (off : BitVec 5)
  /-- STRH (immediate offset), format T10 (49_unlisted_families.md R416). -/
  | tStrhImm (rd rb : LowReg) (off : BitVec 6)
  /-- LDRH (immediate offset), format T10 (49_unlisted_families.md R417). -/
  | tLdrhImm (rd rb : LowReg) (off : BitVec 6)
  /-- STR (SP-relative), format T11 (48_thumb_mem_branch.md R359). -/
  | tStrSp (rd : LowReg) (off : BitVec 10)
  /-- LDR (SP-relative), format T11 (48_thumb_mem_branch.md R360). -/
  | tLdrSp (rd : LowReg) (off : BitVec 10)
  /-- ADD (Rd, PC, immediate), format T12 (47_thumb_alu.md R333). -/
  | tAddPc (rd : LowReg) (off : BitVec 10)
  /-- ADD (Rd, SP, immediate), format T12 (47_thumb_alu.md R334). -/
  | tAddSp (rd : LowReg) (off : BitVec 10)
  /-- ADD (SP, positive immediate), format T13 (47_thumb_alu.md R335). -/
  | tAddSpPos (off : BitVec 9)
  /-- ADD (SP, negative immediate), format T13 (47_thumb_alu.md R336). -/
  | tAddSpNeg (off : BitVec 9)
  /-- UNDEFINED (1011 0001), format T13 (46_swi_undefined.md R296). -/
  | tUndefB1
  /-- UNDEFINED (1011 001x), format T13 (46_swi_undefined.md R296). -/
  | tUndefB2
  /-- PUSH, format T14 (48_thumb_mem_branch.md R361). -/
  | tPush (r : Bool) (list : BitVec 8)
  /-- UNDEFINED (1011 011x), format T14 (46_swi_undefined.md R296). -/
  | tUndefB6
  /-- UNDEFINED (1011 10xx), format T14 (46_swi_undefined.md R296). -/
  | tUndefB8
  /-- POP, format T14 (48_thumb_mem_branch.md R362). -/
  | tPop (r : Bool) (list : BitVec 8)
  /-- UNDEFINED (1011 111x), format T14 (46_swi_undefined.md R296). -/
  | tUndefBe
  /-- STMIA, format T15 (48_thumb_mem_branch.md R363). -/
  | tStmia (rb : LowReg) (list : BitVec 8)
  /-- LDMIA, format T15 (48_thumb_mem_branch.md R364). -/
  | tLdmia (rb : LowReg) (list : BitVec 8)
  /-- BEQ, format T16 (48_thumb_mem_branch.md R368). -/
  | tBeq (off : BitVec 9)
  /-- BNE, format T16 (48_thumb_mem_branch.md R368). -/
  | tBne (off : BitVec 9)
  /-- BCS, format T16 (48_thumb_mem_branch.md R368). -/
  | tBcs (off : BitVec 9)
  /-- BCC, format T16 (48_thumb_mem_branch.md R368). -/
  | tBcc (off : BitVec 9)
  /-- BMI, format T16 (48_thumb_mem_branch.md R368). -/
  | tBmi (off : BitVec 9)
  /-- BPL, format T16 (48_thumb_mem_branch.md R368). -/
  | tBpl (off : BitVec 9)
  /-- BVS, format T16 (48_thumb_mem_branch.md R368). -/
  | tBvs (off : BitVec 9)
  /-- BVC, format T16 (48_thumb_mem_branch.md R368). -/
  | tBvc (off : BitVec 9)
  /-- BHI, format T16 (48_thumb_mem_branch.md R368). -/
  | tBhi (off : BitVec 9)
  /-- BLS, format T16 (48_thumb_mem_branch.md R368). -/
  | tBls (off : BitVec 9)
  /-- BGE, format T16 (48_thumb_mem_branch.md R368). -/
  | tBge (off : BitVec 9)
  /-- BLT, format T16 (48_thumb_mem_branch.md R368). -/
  | tBlt (off : BitVec 9)
  /-- BGT, format T16 (48_thumb_mem_branch.md R368). -/
  | tBgt (off : BitVec 9)
  /-- BLE, format T16 (48_thumb_mem_branch.md R368). -/
  | tBle (off : BitVec 9)
  /-- UNDEFINED (conditional branch with cond 1110), format T16 (46_swi_undefined.md R296). -/
  | tUndefCond14
  /-- SWI, format T17 (48_thumb_mem_branch.md R369). -/
  | tSwi (imm8 : BitVec 8)
  /-- B, format T18 (48_thumb_mem_branch.md R370). -/
  | tB (off : BitVec 12)
  /-- UNDEFINED (11101; BLX suffix of later architectures), format T18 (46_swi_undefined.md R296). -/
  | tUndefBlxSuffix
  /-- BL (first half), format T19 (48_thumb_mem_branch.md R371). -/
  | tBlHi (off11 : BitVec 11)
  /-- BL (second half), format T19 (48_thumb_mem_branch.md R372). -/
  | tBlLo (off11 : BitVec 11)
  deriving DecidableEq, Repr

end Sys2Proof
end

