-- ==== Sys2Proof/WellFormed.lean ====
section
/-! DEFINITION. Which instructions an encoding can express: every scaled displacement is a multiple of its scale
(30_encoding.md R126 A11; R130 T6, T9 words, T10, T11, T12, T13, T16, T18). Every other field has exactly the bits its encoding
gives it, so no other check is needed. -/

namespace Sys2Proof

/-- The well-formedness check, one arm per constructor. -/
def Instr.wf : Instr → Bool
  | .andImm _ _ _ _ _ _ => true
  | .andShImm _ _ _ _ _ _ _ => true
  | .andShReg _ _ _ _ _ _ _ => true
  | .eorImm _ _ _ _ _ _ => true
  | .eorShImm _ _ _ _ _ _ _ => true
  | .eorShReg _ _ _ _ _ _ _ => true
  | .subImm _ _ _ _ _ _ => true
  | .subShImm _ _ _ _ _ _ _ => true
  | .subShReg _ _ _ _ _ _ _ => true
  | .rsbImm _ _ _ _ _ _ => true
  | .rsbShImm _ _ _ _ _ _ _ => true
  | .rsbShReg _ _ _ _ _ _ _ => true
  | .addImm _ _ _ _ _ _ => true
  | .addShImm _ _ _ _ _ _ _ => true
  | .addShReg _ _ _ _ _ _ _ => true
  | .adcImm _ _ _ _ _ _ => true
  | .adcShImm _ _ _ _ _ _ _ => true
  | .adcShReg _ _ _ _ _ _ _ => true
  | .sbcImm _ _ _ _ _ _ => true
  | .sbcShImm _ _ _ _ _ _ _ => true
  | .sbcShReg _ _ _ _ _ _ _ => true
  | .rscImm _ _ _ _ _ _ => true
  | .rscShImm _ _ _ _ _ _ _ => true
  | .rscShReg _ _ _ _ _ _ _ => true
  | .tstImm _ _ _ _ => true
  | .tstShImm _ _ _ _ _ => true
  | .tstShReg _ _ _ _ _ => true
  | .teqImm _ _ _ _ => true
  | .teqShImm _ _ _ _ _ => true
  | .teqShReg _ _ _ _ _ => true
  | .cmpImm _ _ _ _ => true
  | .cmpShImm _ _ _ _ _ => true
  | .cmpShReg _ _ _ _ _ => true
  | .cmnImm _ _ _ _ => true
  | .cmnShImm _ _ _ _ _ => true
  | .cmnShReg _ _ _ _ _ => true
  | .orrImm _ _ _ _ _ _ => true
  | .orrShImm _ _ _ _ _ _ _ => true
  | .orrShReg _ _ _ _ _ _ _ => true
  | .movImm _ _ _ _ _ => true
  | .movShImm _ _ _ _ _ _ => true
  | .movShReg _ _ _ _ _ _ => true
  | .bicImm _ _ _ _ _ _ => true
  | .bicShImm _ _ _ _ _ _ _ => true
  | .bicShReg _ _ _ _ _ _ _ => true
  | .mvnImm _ _ _ _ _ => true
  | .mvnShImm _ _ _ _ _ _ => true
  | .mvnShReg _ _ _ _ _ _ => true
  | .mrs _ _ _ => true
  | .msrReg _ _ _ _ => true
  | .msrImm _ _ _ _ _ => true
  | .bx _ _ => true
  | .ldrImm _ _ _ _ _ _ _ => true
  | .ldrReg _ _ _ _ _ _ _ _ _ => true
  | .strImm _ _ _ _ _ _ _ => true
  | .strReg _ _ _ _ _ _ _ _ _ => true
  | .ldrbImm _ _ _ _ _ _ _ => true
  | .ldrbReg _ _ _ _ _ _ _ _ _ => true
  | .strbImm _ _ _ _ _ _ _ => true
  | .strbReg _ _ _ _ _ _ _ _ _ => true
  | .undefArch _ => true
  | .ldm _ _ _ _ _ _ _ => true
  | .stm _ _ _ _ _ _ _ => true
  | .b _ off => off.extractLsb' 0 2 == 0#2
  | .bl _ off => off.extractLsb' 0 2 == 0#2
  | .undefCopTransfer _ => true
  | .undefCopOp _ => true
  | .swi _ _ => true
  | .mul _ _ _ _ _ => true
  | .mla _ _ _ _ _ _ => true
  | .umull _ _ _ _ _ _ => true
  | .umlal _ _ _ _ _ _ => true
  | .smull _ _ _ _ _ _ => true
  | .smlal _ _ _ _ _ _ => true
  | .swp _ _ _ _ => true
  | .swpb _ _ _ _ => true
  | .strhReg _ _ _ _ _ _ _ => true
  | .strhImm _ _ _ _ _ _ _ => true
  | .ldrhReg _ _ _ _ _ _ _ => true
  | .ldrhImm _ _ _ _ _ _ _ => true
  | .ldrsbReg _ _ _ _ _ _ _ => true
  | .ldrsbImm _ _ _ _ _ _ _ => true
  | .ldrshReg _ _ _ _ _ _ _ => true
  | .ldrshImm _ _ _ _ _ _ _ => true
  | .undefDoubleword _ => true
  | .tLslImm _ _ _ => true
  | .tLsrImm _ _ _ => true
  | .tAsrImm _ _ _ => true
  | .tAddReg _ _ _ => true
  | .tSubReg _ _ _ => true
  | .tAddImm3 _ _ _ => true
  | .tSubImm3 _ _ _ => true
  | .tMovImm8 _ _ => true
  | .tCmpImm8 _ _ => true
  | .tAddImm8 _ _ => true
  | .tSubImm8 _ _ => true
  | .tAnd _ _ => true
  | .tEor _ _ => true
  | .tLsl _ _ => true
  | .tLsr _ _ => true
  | .tAsr _ _ => true
  | .tAdc _ _ => true
  | .tSbc _ _ => true
  | .tRor _ _ => true
  | .tTst _ _ => true
  | .tNeg _ _ => true
  | .tCmp _ _ => true
  | .tCmn _ _ => true
  | .tOrr _ _ => true
  | .tMul _ _ => true
  | .tBic _ _ => true
  | .tMvn _ _ => true
  | .tAddHi _ _ => true
  | .tCmpHi _ _ => true
  | .tMovHi _ _ => true
  | .tBx _ => true
  | .tUndefBxH1 => true
  | .tLdrPc _ off => off.extractLsb' 0 2 == 0#2
  | .tStrReg _ _ _ => true
  | .tStrbReg _ _ _ => true
  | .tLdrReg _ _ _ => true
  | .tLdrbReg _ _ _ => true
  | .tStrhReg _ _ _ => true
  | .tLdsbReg _ _ _ => true
  | .tLdrhReg _ _ _ => true
  | .tLdshReg _ _ _ => true
  | .tStrImm _ _ off => off.extractLsb' 0 2 == 0#2
  | .tLdrImm _ _ off => off.extractLsb' 0 2 == 0#2
  | .tStrbImm _ _ _ => true
  | .tLdrbImm _ _ _ => true
  | .tStrhImm _ _ off => off.extractLsb' 0 1 == 0#1
  | .tLdrhImm _ _ off => off.extractLsb' 0 1 == 0#1
  | .tStrSp _ off => off.extractLsb' 0 2 == 0#2
  | .tLdrSp _ off => off.extractLsb' 0 2 == 0#2
  | .tAddPc _ off => off.extractLsb' 0 2 == 0#2
  | .tAddSp _ off => off.extractLsb' 0 2 == 0#2
  | .tAddSpPos off => off.extractLsb' 0 2 == 0#2
  | .tAddSpNeg off => off.extractLsb' 0 2 == 0#2
  | .tUndefB1 => true
  | .tUndefB2 => true
  | .tPush _ _ => true
  | .tUndefB6 => true
  | .tUndefB8 => true
  | .tPop _ _ => true
  | .tUndefBe => true
  | .tStmia _ _ => true
  | .tLdmia _ _ => true
  | .tBeq off => off.extractLsb' 0 1 == 0#1
  | .tBne off => off.extractLsb' 0 1 == 0#1
  | .tBcs off => off.extractLsb' 0 1 == 0#1
  | .tBcc off => off.extractLsb' 0 1 == 0#1
  | .tBmi off => off.extractLsb' 0 1 == 0#1
  | .tBpl off => off.extractLsb' 0 1 == 0#1
  | .tBvs off => off.extractLsb' 0 1 == 0#1
  | .tBvc off => off.extractLsb' 0 1 == 0#1
  | .tBhi off => off.extractLsb' 0 1 == 0#1
  | .tBls off => off.extractLsb' 0 1 == 0#1
  | .tBge off => off.extractLsb' 0 1 == 0#1
  | .tBlt off => off.extractLsb' 0 1 == 0#1
  | .tBgt off => off.extractLsb' 0 1 == 0#1
  | .tBle off => off.extractLsb' 0 1 == 0#1
  | .tUndefCond14 => true
  | .tSwi _ => true
  | .tB off => off.extractLsb' 0 1 == 0#1
  | .tUndefBlxSuffix => true
  | .tBlHi _ => true
  | .tBlLo _ => true

end Sys2Proof
end

