-- ==== Sys2Proof/Decode.lean ====
section
/-! DEFINITION. Decoding and encoding (spec/30_encoding.md). The decoder is the opcode table itself: one row per row of
spec/opcode_table.json, with that row's mask, match and the fields of its encoding; a word that matches no row is rejected.
The encoder is written from the format tables of R122, R124 and R127. -/

namespace Sys2Proof

/-! ## Field codes -/

/-- The condition field of a condition (40_execution_common.md R161). -/
def Cond.bits : Cond → BitVec 4
  | .eq => 0b0000#4 | .ne => 0b0001#4 | .cs => 0b0010#4 | .cc => 0b0011#4
  | .mi => 0b0100#4 | .pl => 0b0101#4 | .vs => 0b0110#4 | .vc => 0b0111#4
  | .hi => 0b1000#4 | .ls => 0b1001#4 | .ge => 0b1010#4 | .lt => 0b1011#4
  | .gt => 0b1100#4 | .le => 0b1101#4 | .al => 0b1110#4 | .nv => 0b1111#4

/-- The condition a condition field names. -/
def Cond.ofBits (b : BitVec 4) : Cond :=
  match b.toNat with
  | 0 => .eq | 1 => .ne | 2 => .cs | 3 => .cc | 4 => .mi | 5 => .pl | 6 => .vs | 7 => .vc
  | 8 => .hi | 9 => .ls | 10 => .ge | 11 => .lt | 12 => .gt | 13 => .le | 14 => .al | _ => .nv

/-- The code of a shift type (30_encoding.md R123). -/
def ShiftType.bits : ShiftType → BitVec 2
  | .lsl => 0b00#2 | .lsr => 0b01#2 | .asr => 0b10#2 | .ror => 0b11#2

/-- The shift type a code names. -/
def ShiftType.ofBits (b : BitVec 2) : ShiftType :=
  match b.toNat with
  | 0 => .lsl | 1 => .lsr | 2 => .asr | _ => .ror

/-- The condition field of a 32-bit word, bits 31:28. -/
def condOf (w : Word) : Cond := Cond.ofBits (w.extractLsb' 28 4)

/-- The shift-type field of formats A2, A3 and A9, bits 6:5. -/
def shiftOf (w : Word) : ShiftType := ShiftType.ofBits (w.extractLsb' 5 2)

/-- One bit of an encoding. -/
def bit (x : Bool) : BitVec 1 := BitVec.ofBool x

/-! ## Formats of 32-bit mode (R122, R124), most significant field first -/

/-- A1, data processing, immediate operand. -/
def fmtA1 (c : Cond) (op : BitVec 4) (sf : Bool) (rn rd : Reg) (rot : BitVec 4) (imm8 : BitVec 8) : Word :=
  c.bits ++ 0b001#3 ++ op ++ bit sf ++ rn ++ rd ++ rot ++ imm8
/-- A2, data processing, register operand shifted by an immediate. -/
def fmtA2 (c : Cond) (op : BitVec 4) (sf : Bool) (rn rd : Reg) (shamt : BitVec 5) (ty : ShiftType) (rm : Reg) : Word :=
  c.bits ++ 0b000#3 ++ op ++ bit sf ++ rn ++ rd ++ shamt ++ ty.bits ++ 0#1 ++ rm
/-- A3, data processing, register operand shifted by a register. -/
def fmtA3 (c : Cond) (op : BitVec 4) (sf : Bool) (rn rd rs : Reg) (ty : ShiftType) (rm : Reg) : Word :=
  c.bits ++ 0b000#3 ++ op ++ bit sf ++ rn ++ rd ++ rs ++ 0#1 ++ ty.bits ++ 1#1 ++ rm
/-- A4, MRS. -/
def fmtA4 (c : Cond) (p : Bool) (rd : Reg) : Word :=
  c.bits ++ 0b00010#5 ++ bit p ++ 0b00#2 ++ 0b1111#4 ++ rd ++ 0#12
/-- A5, MSR, register. -/
def fmtA5 (c : Cond) (p : Bool) (fields : BitVec 4) (rm : Reg) : Word :=
  c.bits ++ 0b00010#5 ++ bit p ++ 0b10#2 ++ fields ++ 0b1111#4 ++ 0#8 ++ rm
/-- A6, MSR, immediate. -/
def fmtA6 (c : Cond) (p : Bool) (fields rot : BitVec 4) (imm8 : BitVec 8) : Word :=
  c.bits ++ 0b00110#5 ++ bit p ++ 0b10#2 ++ fields ++ 0b1111#4 ++ rot ++ imm8
/-- A7, BX. -/
def fmtA7 (c : Cond) (rm : Reg) : Word :=
  c.bits ++ 0b00010010#8 ++ 0b1111#4 ++ 0b1111#4 ++ 0b11110001#8 ++ rm
/-- A8, single transfer, immediate offset. -/
def fmtA8 (c : Cond) (p u b w l : Bool) (rn rd : Reg) (off : BitVec 12) : Word :=
  c.bits ++ 0b010#3 ++ bit p ++ bit u ++ bit b ++ bit w ++ bit l ++ rn ++ rd ++ off
/-- A9, single transfer, register offset. -/
def fmtA9 (c : Cond) (p u b w l : Bool) (rn rd : Reg) (shamt : BitVec 5) (ty : ShiftType) (rm : Reg) : Word :=
  c.bits ++ 0b011#3 ++ bit p ++ bit u ++ bit b ++ bit w ++ bit l ++ rn ++ rd ++ shamt ++ ty.bits ++ 0#1 ++ rm
/-- A10, block transfer. -/
def fmtA10 (c : Cond) (p u sbit w l : Bool) (rn : Reg) (list : BitVec 16) : Word :=
  c.bits ++ 0b100#3 ++ bit p ++ bit u ++ bit sbit ++ bit w ++ bit l ++ rn ++ list
/-- A11, branch; the displacement's low two bits are not encoded (R126). -/
def fmtA11 (c : Cond) (l : Bool) (off : BitVec 26) : Word :=
  c.bits ++ 0b101#3 ++ bit l ++ off.extractLsb' 2 24
/-- A12, software interrupt. -/
def fmtA12 (c : Cond) (comment : BitVec 24) : Word :=
  c.bits ++ 0b1111#4 ++ comment
/-- A13, architecturally undefined; the free bits as zero. -/
def fmtA13 (c : Cond) : Word :=
  c.bits ++ 0b011#3 ++ 0#20 ++ 1#1 ++ 0#4
/-- A14, multiply. -/
def fmtA14 (c : Cond) (a sf : Bool) (rd rn rs rm : Reg) : Word :=
  c.bits ++ 0b000000#6 ++ bit a ++ bit sf ++ rd ++ rn ++ rs ++ 0b1001#4 ++ rm
/-- A15, long multiply. -/
def fmtA15 (c : Cond) (u a sf : Bool) (rdHi rdLo rs rm : Reg) : Word :=
  c.bits ++ 0b00001#5 ++ bit u ++ bit a ++ bit sf ++ rdHi ++ rdLo ++ rs ++ 0b1001#4 ++ rm
/-- A16, swap. -/
def fmtA16 (c : Cond) (b : Bool) (rn rd rm : Reg) : Word :=
  c.bits ++ 0b00010#5 ++ bit b ++ 0b00#2 ++ rn ++ rd ++ 0b0000#4 ++ 0b1001#4 ++ rm
/-- A17, halfword or signed transfer, register offset. -/
def fmtA17 (c : Cond) (p u w l : Bool) (rn rd : Reg) (s h : Bool) (rm : Reg) : Word :=
  c.bits ++ 0b000#3 ++ bit p ++ bit u ++ 0#1 ++ bit w ++ bit l ++ rn ++ rd ++ 0b0000#4 ++ 1#1 ++ bit s ++ bit h ++ 1#1 ++ rm
/-- A18, halfword or signed transfer, immediate offset. -/
def fmtA18 (c : Cond) (p u w l : Bool) (rn rd : Reg) (s h : Bool) (off : BitVec 8) : Word :=
  c.bits ++ 0b000#3 ++ bit p ++ bit u ++ 1#1 ++ bit w ++ bit l ++ rn ++ rd ++ off.extractLsb' 4 4 ++ 1#1 ++ bit s ++ bit h ++ 1#1
    ++ off.extractLsb' 0 4
/-- A19, coprocessor data transfer; the free bits as zero. -/
def fmtA19 (c : Cond) : Word := c.bits ++ 0b110#3 ++ 0#25
/-- A20, coprocessor operation and register transfer; the free bits as zero. -/
def fmtA20 (c : Cond) : Word := c.bits ++ 0b1110#4 ++ 0#24

/-! ## Formats of compressed mode (R127), bit 15 first -/

/-- T1, move shifted register. -/
def fmtT1 (op : BitVec 2) (off5 : BitVec 5) (rs rd : LowReg) : Half := 0b000#3 ++ op ++ off5 ++ rs ++ rd
/-- T2, add and subtract. -/
def fmtT2 (i op : Bool) (x : BitVec 3) (rs rd : LowReg) : Half := 0b00011#5 ++ bit i ++ bit op ++ x ++ rs ++ rd
/-- T3, move, compare, add, subtract immediate. -/
def fmtT3 (op : BitVec 2) (rd : LowReg) (imm8 : BitVec 8) : Half := 0b001#3 ++ op ++ rd ++ imm8
/-- T4, ALU operation (R128). -/
def fmtT4 (op : BitVec 4) (rs rd : LowReg) : Half := 0b010000#6 ++ op ++ rs ++ rd
/-- T5, high-register operation and BX: H1 and H2 are the top bits of the two register numbers. -/
def fmtT5 (op : BitVec 2) (rd rs : Reg) : Half :=
  0b010001#6 ++ op ++ rd.extractLsb' 3 1 ++ rs.extractLsb' 3 1 ++ rs.extractLsb' 0 3 ++ rd.extractLsb' 0 3
/-- T6, PC-relative load. -/
def fmtT6 (rd : LowReg) (off : BitVec 10) : Half := 0b01001#5 ++ rd ++ off.extractLsb' 2 8
/-- T7, load and store, register offset. -/
def fmtT7 (l b : Bool) (ro rb rd : LowReg) : Half := 0b0101#4 ++ bit l ++ bit b ++ 0#1 ++ ro ++ rb ++ rd
/-- T8, load and store sign-extended byte and halfword. -/
def fmtT8 (h s : Bool) (ro rb rd : LowReg) : Half := 0b0101#4 ++ bit h ++ bit s ++ 1#1 ++ ro ++ rb ++ rd
/-- T9, load and store, immediate offset. -/
def fmtT9 (b l : Bool) (off5 : BitVec 5) (rb rd : LowReg) : Half := 0b011#3 ++ bit b ++ bit l ++ off5 ++ rb ++ rd
/-- T10, load and store halfword. -/
def fmtT10 (l : Bool) (off : BitVec 6) (rb rd : LowReg) : Half := 0b1000#4 ++ bit l ++ off.extractLsb' 1 5 ++ rb ++ rd
/-- T11, SP-relative load and store. -/
def fmtT11 (l : Bool) (rd : LowReg) (off : BitVec 10) : Half := 0b1001#4 ++ bit l ++ rd ++ off.extractLsb' 2 8
/-- T12, load address. -/
def fmtT12 (sp : Bool) (rd : LowReg) (off : BitVec 10) : Half := 0b1010#4 ++ bit sp ++ rd ++ off.extractLsb' 2 8
/-- T13, add offset to stack pointer. -/
def fmtT13 (s : Bool) (off : BitVec 9) : Half := 0b10110000#8 ++ bit s ++ off.extractLsb' 2 7
/-- T14, push and pop. -/
def fmtT14 (l r : Bool) (list : BitVec 8) : Half := 0b1011#4 ++ bit l ++ 0b10#2 ++ bit r ++ list
/-- T15, multiple load and store. -/
def fmtT15 (l : Bool) (rb : LowReg) (list : BitVec 8) : Half := 0b1100#4 ++ bit l ++ rb ++ list
/-- T16, conditional branch. -/
def fmtT16 (c : Cond) (off : BitVec 9) : Half := 0b1101#4 ++ c.bits ++ off.extractLsb' 1 8
/-- T17, software interrupt. -/
def fmtT17 (value8 : BitVec 8) : Half := 0b11011111#8 ++ value8
/-- T18, unconditional branch. -/
def fmtT18 (off : BitVec 12) : Half := 0b11100#5 ++ off.extractLsb' 1 11
/-- T19, long branch with link. -/
def fmtT19 (h : Bool) (off11 : BitVec 11) : Half := 0b1111#4 ++ bit h ++ off11

/-! ## The opcode table as data -/

/-- One row of the opcode table: a word `w` matches when `w &&& mask = val` (R136); `build` reads the fields. -/
structure Row (n : Nat) where
  mask : BitVec n
  val : BitVec n
  build : BitVec n → Instr

/-- The row's test. -/
def Row.hits {n : Nat} (r : Row n) (w : BitVec n) : Bool := w &&& r.mask == r.val

/-- Rows: AND to RSC, opcodes 0000 to 0111. -/
def armRowsLogic : List (Row 32) :=
  [ ⟨0x0FE00000#32, 0x02000000#32, fun w => .andImm (condOf w) (w.getLsbD 20) (w.extractLsb' 16 4) (w.extractLsb' 12 4) (w.extractLsb' 8 4) (w.extractLsb' 0 8)⟩,
    ⟨0x0FE00010#32, 0x00000000#32, fun w => .andShImm (condOf w) (w.getLsbD 20) (w.extractLsb' 16 4) (w.extractLsb' 12 4) (w.extractLsb' 7 5) (shiftOf w) (w.extractLsb' 0 4)⟩,
    ⟨0x0FE00090#32, 0x00000010#32, fun w => .andShReg (condOf w) (w.getLsbD 20) (w.extractLsb' 16 4) (w.extractLsb' 12 4) (w.extractLsb' 8 4) (shiftOf w) (w.extractLsb' 0 4)⟩,
    ⟨0x0FE00000#32, 0x02200000#32, fun w => .eorImm (condOf w) (w.getLsbD 20) (w.extractLsb' 16 4) (w.extractLsb' 12 4) (w.extractLsb' 8 4) (w.extractLsb' 0 8)⟩,
    ⟨0x0FE00010#32, 0x00200000#32, fun w => .eorShImm (condOf w) (w.getLsbD 20) (w.extractLsb' 16 4) (w.extractLsb' 12 4) (w.extractLsb' 7 5) (shiftOf w) (w.extractLsb' 0 4)⟩,
    ⟨0x0FE00090#32, 0x00200010#32, fun w => .eorShReg (condOf w) (w.getLsbD 20) (w.extractLsb' 16 4) (w.extractLsb' 12 4) (w.extractLsb' 8 4) (shiftOf w) (w.extractLsb' 0 4)⟩,
    ⟨0x0FE00000#32, 0x02400000#32, fun w => .subImm (condOf w) (w.getLsbD 20) (w.extractLsb' 16 4) (w.extractLsb' 12 4) (w.extractLsb' 8 4) (w.extractLsb' 0 8)⟩,
    ⟨0x0FE00010#32, 0x00400000#32, fun w => .subShImm (condOf w) (w.getLsbD 20) (w.extractLsb' 16 4) (w.extractLsb' 12 4) (w.extractLsb' 7 5) (shiftOf w) (w.extractLsb' 0 4)⟩,
    ⟨0x0FE00090#32, 0x00400010#32, fun w => .subShReg (condOf w) (w.getLsbD 20) (w.extractLsb' 16 4) (w.extractLsb' 12 4) (w.extractLsb' 8 4) (shiftOf w) (w.extractLsb' 0 4)⟩,
    ⟨0x0FE00000#32, 0x02600000#32, fun w => .rsbImm (condOf w) (w.getLsbD 20) (w.extractLsb' 16 4) (w.extractLsb' 12 4) (w.extractLsb' 8 4) (w.extractLsb' 0 8)⟩,
    ⟨0x0FE00010#32, 0x00600000#32, fun w => .rsbShImm (condOf w) (w.getLsbD 20) (w.extractLsb' 16 4) (w.extractLsb' 12 4) (w.extractLsb' 7 5) (shiftOf w) (w.extractLsb' 0 4)⟩,
    ⟨0x0FE00090#32, 0x00600010#32, fun w => .rsbShReg (condOf w) (w.getLsbD 20) (w.extractLsb' 16 4) (w.extractLsb' 12 4) (w.extractLsb' 8 4) (shiftOf w) (w.extractLsb' 0 4)⟩,
    ⟨0x0FE00000#32, 0x02800000#32, fun w => .addImm (condOf w) (w.getLsbD 20) (w.extractLsb' 16 4) (w.extractLsb' 12 4) (w.extractLsb' 8 4) (w.extractLsb' 0 8)⟩,
    ⟨0x0FE00010#32, 0x00800000#32, fun w => .addShImm (condOf w) (w.getLsbD 20) (w.extractLsb' 16 4) (w.extractLsb' 12 4) (w.extractLsb' 7 5) (shiftOf w) (w.extractLsb' 0 4)⟩,
    ⟨0x0FE00090#32, 0x00800010#32, fun w => .addShReg (condOf w) (w.getLsbD 20) (w.extractLsb' 16 4) (w.extractLsb' 12 4) (w.extractLsb' 8 4) (shiftOf w) (w.extractLsb' 0 4)⟩,
    ⟨0x0FE00000#32, 0x02A00000#32, fun w => .adcImm (condOf w) (w.getLsbD 20) (w.extractLsb' 16 4) (w.extractLsb' 12 4) (w.extractLsb' 8 4) (w.extractLsb' 0 8)⟩,
    ⟨0x0FE00010#32, 0x00A00000#32, fun w => .adcShImm (condOf w) (w.getLsbD 20) (w.extractLsb' 16 4) (w.extractLsb' 12 4) (w.extractLsb' 7 5) (shiftOf w) (w.extractLsb' 0 4)⟩,
    ⟨0x0FE00090#32, 0x00A00010#32, fun w => .adcShReg (condOf w) (w.getLsbD 20) (w.extractLsb' 16 4) (w.extractLsb' 12 4) (w.extractLsb' 8 4) (shiftOf w) (w.extractLsb' 0 4)⟩,
    ⟨0x0FE00000#32, 0x02C00000#32, fun w => .sbcImm (condOf w) (w.getLsbD 20) (w.extractLsb' 16 4) (w.extractLsb' 12 4) (w.extractLsb' 8 4) (w.extractLsb' 0 8)⟩,
    ⟨0x0FE00010#32, 0x00C00000#32, fun w => .sbcShImm (condOf w) (w.getLsbD 20) (w.extractLsb' 16 4) (w.extractLsb' 12 4) (w.extractLsb' 7 5) (shiftOf w) (w.extractLsb' 0 4)⟩,
    ⟨0x0FE00090#32, 0x00C00010#32, fun w => .sbcShReg (condOf w) (w.getLsbD 20) (w.extractLsb' 16 4) (w.extractLsb' 12 4) (w.extractLsb' 8 4) (shiftOf w) (w.extractLsb' 0 4)⟩,
    ⟨0x0FE00000#32, 0x02E00000#32, fun w => .rscImm (condOf w) (w.getLsbD 20) (w.extractLsb' 16 4) (w.extractLsb' 12 4) (w.extractLsb' 8 4) (w.extractLsb' 0 8)⟩,
    ⟨0x0FE00010#32, 0x00E00000#32, fun w => .rscShImm (condOf w) (w.getLsbD 20) (w.extractLsb' 16 4) (w.extractLsb' 12 4) (w.extractLsb' 7 5) (shiftOf w) (w.extractLsb' 0 4)⟩,
    ⟨0x0FE00090#32, 0x00E00010#32, fun w => .rscShReg (condOf w) (w.getLsbD 20) (w.extractLsb' 16 4) (w.extractLsb' 12 4) (w.extractLsb' 8 4) (shiftOf w) (w.extractLsb' 0 4)⟩ ]

/-- Rows: TST to CMN, opcodes 1000 to 1011 with S = 1. -/
def armRowsCompare : List (Row 32) :=
  [ ⟨0x0FF00000#32, 0x03100000#32, fun w => .tstImm (condOf w) (w.extractLsb' 16 4) (w.extractLsb' 8 4) (w.extractLsb' 0 8)⟩,
    ⟨0x0FF00010#32, 0x01100000#32, fun w => .tstShImm (condOf w) (w.extractLsb' 16 4) (w.extractLsb' 7 5) (shiftOf w) (w.extractLsb' 0 4)⟩,
    ⟨0x0FF00090#32, 0x01100010#32, fun w => .tstShReg (condOf w) (w.extractLsb' 16 4) (w.extractLsb' 8 4) (shiftOf w) (w.extractLsb' 0 4)⟩,
    ⟨0x0FF00000#32, 0x03300000#32, fun w => .teqImm (condOf w) (w.extractLsb' 16 4) (w.extractLsb' 8 4) (w.extractLsb' 0 8)⟩,
    ⟨0x0FF00010#32, 0x01300000#32, fun w => .teqShImm (condOf w) (w.extractLsb' 16 4) (w.extractLsb' 7 5) (shiftOf w) (w.extractLsb' 0 4)⟩,
    ⟨0x0FF00090#32, 0x01300010#32, fun w => .teqShReg (condOf w) (w.extractLsb' 16 4) (w.extractLsb' 8 4) (shiftOf w) (w.extractLsb' 0 4)⟩,
    ⟨0x0FF00000#32, 0x03500000#32, fun w => .cmpImm (condOf w) (w.extractLsb' 16 4) (w.extractLsb' 8 4) (w.extractLsb' 0 8)⟩,
    ⟨0x0FF00010#32, 0x01500000#32, fun w => .cmpShImm (condOf w) (w.extractLsb' 16 4) (w.extractLsb' 7 5) (shiftOf w) (w.extractLsb' 0 4)⟩,
    ⟨0x0FF00090#32, 0x01500010#32, fun w => .cmpShReg (condOf w) (w.extractLsb' 16 4) (w.extractLsb' 8 4) (shiftOf w) (w.extractLsb' 0 4)⟩,
    ⟨0x0FF00000#32, 0x03700000#32, fun w => .cmnImm (condOf w) (w.extractLsb' 16 4) (w.extractLsb' 8 4) (w.extractLsb' 0 8)⟩,
    ⟨0x0FF00010#32, 0x01700000#32, fun w => .cmnShImm (condOf w) (w.extractLsb' 16 4) (w.extractLsb' 7 5) (shiftOf w) (w.extractLsb' 0 4)⟩,
    ⟨0x0FF00090#32, 0x01700010#32, fun w => .cmnShReg (condOf w) (w.extractLsb' 16 4) (w.extractLsb' 8 4) (shiftOf w) (w.extractLsb' 0 4)⟩ ]

/-- Rows: ORR to MVN, opcodes 1100 to 1111. -/
def armRowsMove : List (Row 32) :=
  [ ⟨0x0FE00000#32, 0x03800000#32, fun w => .orrImm (condOf w) (w.getLsbD 20) (w.extractLsb' 16 4) (w.extractLsb' 12 4) (w.extractLsb' 8 4) (w.extractLsb' 0 8)⟩,
    ⟨0x0FE00010#32, 0x01800000#32, fun w => .orrShImm (condOf w) (w.getLsbD 20) (w.extractLsb' 16 4) (w.extractLsb' 12 4) (w.extractLsb' 7 5) (shiftOf w) (w.extractLsb' 0 4)⟩,
    ⟨0x0FE00090#32, 0x01800010#32, fun w => .orrShReg (condOf w) (w.getLsbD 20) (w.extractLsb' 16 4) (w.extractLsb' 12 4) (w.extractLsb' 8 4) (shiftOf w) (w.extractLsb' 0 4)⟩,
    ⟨0x0FE00000#32, 0x03A00000#32, fun w => .movImm (condOf w) (w.getLsbD 20) (w.extractLsb' 12 4) (w.extractLsb' 8 4) (w.extractLsb' 0 8)⟩,
    ⟨0x0FE00010#32, 0x01A00000#32, fun w => .movShImm (condOf w) (w.getLsbD 20) (w.extractLsb' 12 4) (w.extractLsb' 7 5) (shiftOf w) (w.extractLsb' 0 4)⟩,
    ⟨0x0FE00090#32, 0x01A00010#32, fun w => .movShReg (condOf w) (w.getLsbD 20) (w.extractLsb' 12 4) (w.extractLsb' 8 4) (shiftOf w) (w.extractLsb' 0 4)⟩,
    ⟨0x0FE00000#32, 0x03C00000#32, fun w => .bicImm (condOf w) (w.getLsbD 20) (w.extractLsb' 16 4) (w.extractLsb' 12 4) (w.extractLsb' 8 4) (w.extractLsb' 0 8)⟩,
    ⟨0x0FE00010#32, 0x01C00000#32, fun w => .bicShImm (condOf w) (w.getLsbD 20) (w.extractLsb' 16 4) (w.extractLsb' 12 4) (w.extractLsb' 7 5) (shiftOf w) (w.extractLsb' 0 4)⟩,
    ⟨0x0FE00090#32, 0x01C00010#32, fun w => .bicShReg (condOf w) (w.getLsbD 20) (w.extractLsb' 16 4) (w.extractLsb' 12 4) (w.extractLsb' 8 4) (shiftOf w) (w.extractLsb' 0 4)⟩,
    ⟨0x0FE00000#32, 0x03E00000#32, fun w => .mvnImm (condOf w) (w.getLsbD 20) (w.extractLsb' 12 4) (w.extractLsb' 8 4) (w.extractLsb' 0 8)⟩,
    ⟨0x0FE00010#32, 0x01E00000#32, fun w => .mvnShImm (condOf w) (w.getLsbD 20) (w.extractLsb' 12 4) (w.extractLsb' 7 5) (shiftOf w) (w.extractLsb' 0 4)⟩,
    ⟨0x0FE00090#32, 0x01E00010#32, fun w => .mvnShReg (condOf w) (w.getLsbD 20) (w.extractLsb' 12 4) (w.extractLsb' 8 4) (shiftOf w) (w.extractLsb' 0 4)⟩ ]

/-- Rows: status transfer, BX, single and block transfer, branches, traps. -/
def armRowsTransfer : List (Row 32) :=
  [ ⟨0x0FBF0FFF#32, 0x010F0000#32, fun w => .mrs (condOf w) (w.getLsbD 22) (w.extractLsb' 12 4)⟩,
    ⟨0x0FB0FFF0#32, 0x0120F000#32, fun w => .msrReg (condOf w) (w.getLsbD 22) (w.extractLsb' 16 4) (w.extractLsb' 0 4)⟩,
    ⟨0x0FB0F000#32, 0x0320F000#32, fun w => .msrImm (condOf w) (w.getLsbD 22) (w.extractLsb' 16 4) (w.extractLsb' 8 4) (w.extractLsb' 0 8)⟩,
    ⟨0x0FFFFFF0#32, 0x012FFF10#32, fun w => .bx (condOf w) (w.extractLsb' 0 4)⟩,
    ⟨0x0E500000#32, 0x04100000#32, fun w => .ldrImm (condOf w) (w.getLsbD 24) (w.getLsbD 23) (w.getLsbD 21) (w.extractLsb' 16 4) (w.extractLsb' 12 4) (w.extractLsb' 0 12)⟩,
    ⟨0x0E500010#32, 0x06100000#32, fun w => .ldrReg (condOf w) (w.getLsbD 24) (w.getLsbD 23) (w.getLsbD 21) (w.extractLsb' 16 4) (w.extractLsb' 12 4) (w.extractLsb' 7 5) (shiftOf w) (w.extractLsb' 0 4)⟩,
    ⟨0x0E500000#32, 0x04000000#32, fun w => .strImm (condOf w) (w.getLsbD 24) (w.getLsbD 23) (w.getLsbD 21) (w.extractLsb' 16 4) (w.extractLsb' 12 4) (w.extractLsb' 0 12)⟩,
    ⟨0x0E500010#32, 0x06000000#32, fun w => .strReg (condOf w) (w.getLsbD 24) (w.getLsbD 23) (w.getLsbD 21) (w.extractLsb' 16 4) (w.extractLsb' 12 4) (w.extractLsb' 7 5) (shiftOf w) (w.extractLsb' 0 4)⟩,
    ⟨0x0E500000#32, 0x04500000#32, fun w => .ldrbImm (condOf w) (w.getLsbD 24) (w.getLsbD 23) (w.getLsbD 21) (w.extractLsb' 16 4) (w.extractLsb' 12 4) (w.extractLsb' 0 12)⟩,
    ⟨0x0E500010#32, 0x06500000#32, fun w => .ldrbReg (condOf w) (w.getLsbD 24) (w.getLsbD 23) (w.getLsbD 21) (w.extractLsb' 16 4) (w.extractLsb' 12 4) (w.extractLsb' 7 5) (shiftOf w) (w.extractLsb' 0 4)⟩,
    ⟨0x0E500000#32, 0x04400000#32, fun w => .strbImm (condOf w) (w.getLsbD 24) (w.getLsbD 23) (w.getLsbD 21) (w.extractLsb' 16 4) (w.extractLsb' 12 4) (w.extractLsb' 0 12)⟩,
    ⟨0x0E500010#32, 0x06400000#32, fun w => .strbReg (condOf w) (w.getLsbD 24) (w.getLsbD 23) (w.getLsbD 21) (w.extractLsb' 16 4) (w.extractLsb' 12 4) (w.extractLsb' 7 5) (shiftOf w) (w.extractLsb' 0 4)⟩,
    ⟨0x0E000010#32, 0x06000010#32, fun w => .undefArch (condOf w)⟩,
    ⟨0x0E100000#32, 0x08100000#32, fun w => .ldm (condOf w) (w.getLsbD 24) (w.getLsbD 23) (w.getLsbD 22) (w.getLsbD 21) (w.extractLsb' 16 4) (w.extractLsb' 0 16)⟩,
    ⟨0x0E100000#32, 0x08000000#32, fun w => .stm (condOf w) (w.getLsbD 24) (w.getLsbD 23) (w.getLsbD 22) (w.getLsbD 21) (w.extractLsb' 16 4) (w.extractLsb' 0 16)⟩,
    ⟨0x0F000000#32, 0x0A000000#32, fun w => .b (condOf w) ((w.extractLsb' 0 24) ++ 0#2)⟩,
    ⟨0x0F000000#32, 0x0B000000#32, fun w => .bl (condOf w) ((w.extractLsb' 0 24) ++ 0#2)⟩,
    ⟨0x0E000000#32, 0x0C000000#32, fun w => .undefCopTransfer (condOf w)⟩,
    ⟨0x0F000000#32, 0x0E000000#32, fun w => .undefCopOp (condOf w)⟩,
    ⟨0x0F000000#32, 0x0F000000#32, fun w => .swi (condOf w) (w.extractLsb' 0 24)⟩ ]

/-- Rows: the unlisted families and the doubleword space. Bits 11:8 of the halfword and signed transfers with a register offset are
ignored, as R124, R125 and the opcode table's masks say; 93_implementation_defined.md U2 names the halfword forms among those whose
wrong should-be bits make a word unrecognized. DEDUCED (log 35): the masks are followed, by which U2 itself decides. -/
def armRowsUnlisted : List (Row 32) :=
  [ ⟨0x0FE000F0#32, 0x00000090#32, fun w => .mul (condOf w) (w.getLsbD 20) (w.extractLsb' 16 4) (w.extractLsb' 8 4) (w.extractLsb' 0 4)⟩,
    ⟨0x0FE000F0#32, 0x00200090#32, fun w => .mla (condOf w) (w.getLsbD 20) (w.extractLsb' 16 4) (w.extractLsb' 12 4) (w.extractLsb' 8 4) (w.extractLsb' 0 4)⟩,
    ⟨0x0FE000F0#32, 0x00800090#32, fun w => .umull (condOf w) (w.getLsbD 20) (w.extractLsb' 16 4) (w.extractLsb' 12 4) (w.extractLsb' 8 4) (w.extractLsb' 0 4)⟩,
    ⟨0x0FE000F0#32, 0x00A00090#32, fun w => .umlal (condOf w) (w.getLsbD 20) (w.extractLsb' 16 4) (w.extractLsb' 12 4) (w.extractLsb' 8 4) (w.extractLsb' 0 4)⟩,
    ⟨0x0FE000F0#32, 0x00C00090#32, fun w => .smull (condOf w) (w.getLsbD 20) (w.extractLsb' 16 4) (w.extractLsb' 12 4) (w.extractLsb' 8 4) (w.extractLsb' 0 4)⟩,
    ⟨0x0FE000F0#32, 0x00E00090#32, fun w => .smlal (condOf w) (w.getLsbD 20) (w.extractLsb' 16 4) (w.extractLsb' 12 4) (w.extractLsb' 8 4) (w.extractLsb' 0 4)⟩,
    ⟨0x0FF00FF0#32, 0x01000090#32, fun w => .swp (condOf w) (w.extractLsb' 16 4) (w.extractLsb' 12 4) (w.extractLsb' 0 4)⟩,
    ⟨0x0FF00FF0#32, 0x01400090#32, fun w => .swpb (condOf w) (w.extractLsb' 16 4) (w.extractLsb' 12 4) (w.extractLsb' 0 4)⟩,
    ⟨0x0E5000F0#32, 0x000000B0#32, fun w => .strhReg (condOf w) (w.getLsbD 24) (w.getLsbD 23) (w.getLsbD 21) (w.extractLsb' 16 4) (w.extractLsb' 12 4) (w.extractLsb' 0 4)⟩,
    ⟨0x0E5000F0#32, 0x004000B0#32, fun w => .strhImm (condOf w) (w.getLsbD 24) (w.getLsbD 23) (w.getLsbD 21) (w.extractLsb' 16 4) (w.extractLsb' 12 4) ((w.extractLsb' 8 4) ++ (w.extractLsb' 0 4))⟩,
    ⟨0x0E5000F0#32, 0x001000B0#32, fun w => .ldrhReg (condOf w) (w.getLsbD 24) (w.getLsbD 23) (w.getLsbD 21) (w.extractLsb' 16 4) (w.extractLsb' 12 4) (w.extractLsb' 0 4)⟩,
    ⟨0x0E5000F0#32, 0x005000B0#32, fun w => .ldrhImm (condOf w) (w.getLsbD 24) (w.getLsbD 23) (w.getLsbD 21) (w.extractLsb' 16 4) (w.extractLsb' 12 4) ((w.extractLsb' 8 4) ++ (w.extractLsb' 0 4))⟩,
    ⟨0x0E5000F0#32, 0x001000D0#32, fun w => .ldrsbReg (condOf w) (w.getLsbD 24) (w.getLsbD 23) (w.getLsbD 21) (w.extractLsb' 16 4) (w.extractLsb' 12 4) (w.extractLsb' 0 4)⟩,
    ⟨0x0E5000F0#32, 0x005000D0#32, fun w => .ldrsbImm (condOf w) (w.getLsbD 24) (w.getLsbD 23) (w.getLsbD 21) (w.extractLsb' 16 4) (w.extractLsb' 12 4) ((w.extractLsb' 8 4) ++ (w.extractLsb' 0 4))⟩,
    ⟨0x0E5000F0#32, 0x001000F0#32, fun w => .ldrshReg (condOf w) (w.getLsbD 24) (w.getLsbD 23) (w.getLsbD 21) (w.extractLsb' 16 4) (w.extractLsb' 12 4) (w.extractLsb' 0 4)⟩,
    ⟨0x0E5000F0#32, 0x005000F0#32, fun w => .ldrshImm (condOf w) (w.getLsbD 24) (w.getLsbD 23) (w.getLsbD 21) (w.extractLsb' 16 4) (w.extractLsb' 12 4) ((w.extractLsb' 8 4) ++ (w.extractLsb' 0 4))⟩,
    ⟨0x0E1000D0#32, 0x000000D0#32, fun w => .undefDoubleword (condOf w)⟩ ]

/-- Rows: T1 to T5. -/
def thumbRowsAlu : List (Row 16) :=
  [ ⟨0xF800#16, 0x0000#16, fun w => .tLslImm (w.extractLsb' 0 3) (w.extractLsb' 3 3) (w.extractLsb' 6 5)⟩,
    ⟨0xF800#16, 0x0800#16, fun w => .tLsrImm (w.extractLsb' 0 3) (w.extractLsb' 3 3) (w.extractLsb' 6 5)⟩,
    ⟨0xF800#16, 0x1000#16, fun w => .tAsrImm (w.extractLsb' 0 3) (w.extractLsb' 3 3) (w.extractLsb' 6 5)⟩,
    ⟨0xFE00#16, 0x1800#16, fun w => .tAddReg (w.extractLsb' 0 3) (w.extractLsb' 3 3) (w.extractLsb' 6 3)⟩,
    ⟨0xFE00#16, 0x1A00#16, fun w => .tSubReg (w.extractLsb' 0 3) (w.extractLsb' 3 3) (w.extractLsb' 6 3)⟩,
    ⟨0xFE00#16, 0x1C00#16, fun w => .tAddImm3 (w.extractLsb' 0 3) (w.extractLsb' 3 3) (w.extractLsb' 6 3)⟩,
    ⟨0xFE00#16, 0x1E00#16, fun w => .tSubImm3 (w.extractLsb' 0 3) (w.extractLsb' 3 3) (w.extractLsb' 6 3)⟩,
    ⟨0xF800#16, 0x2000#16, fun w => .tMovImm8 (w.extractLsb' 8 3) (w.extractLsb' 0 8)⟩,
    ⟨0xF800#16, 0x2800#16, fun w => .tCmpImm8 (w.extractLsb' 8 3) (w.extractLsb' 0 8)⟩,
    ⟨0xF800#16, 0x3000#16, fun w => .tAddImm8 (w.extractLsb' 8 3) (w.extractLsb' 0 8)⟩,
    ⟨0xF800#16, 0x3800#16, fun w => .tSubImm8 (w.extractLsb' 8 3) (w.extractLsb' 0 8)⟩,
    ⟨0xFFC0#16, 0x4000#16, fun w => .tAnd (w.extractLsb' 0 3) (w.extractLsb' 3 3)⟩,
    ⟨0xFFC0#16, 0x4040#16, fun w => .tEor (w.extractLsb' 0 3) (w.extractLsb' 3 3)⟩,
    ⟨0xFFC0#16, 0x4080#16, fun w => .tLsl (w.extractLsb' 0 3) (w.extractLsb' 3 3)⟩,
    ⟨0xFFC0#16, 0x40C0#16, fun w => .tLsr (w.extractLsb' 0 3) (w.extractLsb' 3 3)⟩,
    ⟨0xFFC0#16, 0x4100#16, fun w => .tAsr (w.extractLsb' 0 3) (w.extractLsb' 3 3)⟩,
    ⟨0xFFC0#16, 0x4140#16, fun w => .tAdc (w.extractLsb' 0 3) (w.extractLsb' 3 3)⟩,
    ⟨0xFFC0#16, 0x4180#16, fun w => .tSbc (w.extractLsb' 0 3) (w.extractLsb' 3 3)⟩,
    ⟨0xFFC0#16, 0x41C0#16, fun w => .tRor (w.extractLsb' 0 3) (w.extractLsb' 3 3)⟩,
    ⟨0xFFC0#16, 0x4200#16, fun w => .tTst (w.extractLsb' 0 3) (w.extractLsb' 3 3)⟩,
    ⟨0xFFC0#16, 0x4240#16, fun w => .tNeg (w.extractLsb' 0 3) (w.extractLsb' 3 3)⟩,
    ⟨0xFFC0#16, 0x4280#16, fun w => .tCmp (w.extractLsb' 0 3) (w.extractLsb' 3 3)⟩,
    ⟨0xFFC0#16, 0x42C0#16, fun w => .tCmn (w.extractLsb' 0 3) (w.extractLsb' 3 3)⟩,
    ⟨0xFFC0#16, 0x4300#16, fun w => .tOrr (w.extractLsb' 0 3) (w.extractLsb' 3 3)⟩,
    ⟨0xFFC0#16, 0x4340#16, fun w => .tMul (w.extractLsb' 0 3) (w.extractLsb' 3 3)⟩,
    ⟨0xFFC0#16, 0x4380#16, fun w => .tBic (w.extractLsb' 0 3) (w.extractLsb' 3 3)⟩,
    ⟨0xFFC0#16, 0x43C0#16, fun w => .tMvn (w.extractLsb' 0 3) (w.extractLsb' 3 3)⟩,
    ⟨0xFF00#16, 0x4400#16, fun w => .tAddHi ((w.extractLsb' 7 1) ++ (w.extractLsb' 0 3)) (w.extractLsb' 3 4)⟩,
    ⟨0xFF00#16, 0x4500#16, fun w => .tCmpHi ((w.extractLsb' 7 1) ++ (w.extractLsb' 0 3)) (w.extractLsb' 3 4)⟩,
    ⟨0xFF00#16, 0x4600#16, fun w => .tMovHi ((w.extractLsb' 7 1) ++ (w.extractLsb' 0 3)) (w.extractLsb' 3 4)⟩,
    ⟨0xFF80#16, 0x4700#16, fun w => .tBx (w.extractLsb' 3 4)⟩,
    ⟨0xFF80#16, 0x4780#16, fun _ => .tUndefBxH1⟩ ]

/-- Rows: T6 to T12. -/
def thumbRowsMem : List (Row 16) :=
  [ ⟨0xF800#16, 0x4800#16, fun w => .tLdrPc (w.extractLsb' 8 3) ((w.extractLsb' 0 8) ++ 0#2)⟩,
    ⟨0xFE00#16, 0x5000#16, fun w => .tStrReg (w.extractLsb' 0 3) (w.extractLsb' 3 3) (w.extractLsb' 6 3)⟩,
    ⟨0xFE00#16, 0x5400#16, fun w => .tStrbReg (w.extractLsb' 0 3) (w.extractLsb' 3 3) (w.extractLsb' 6 3)⟩,
    ⟨0xFE00#16, 0x5800#16, fun w => .tLdrReg (w.extractLsb' 0 3) (w.extractLsb' 3 3) (w.extractLsb' 6 3)⟩,
    ⟨0xFE00#16, 0x5C00#16, fun w => .tLdrbReg (w.extractLsb' 0 3) (w.extractLsb' 3 3) (w.extractLsb' 6 3)⟩,
    ⟨0xFE00#16, 0x5200#16, fun w => .tStrhReg (w.extractLsb' 0 3) (w.extractLsb' 3 3) (w.extractLsb' 6 3)⟩,
    ⟨0xFE00#16, 0x5600#16, fun w => .tLdsbReg (w.extractLsb' 0 3) (w.extractLsb' 3 3) (w.extractLsb' 6 3)⟩,
    ⟨0xFE00#16, 0x5A00#16, fun w => .tLdrhReg (w.extractLsb' 0 3) (w.extractLsb' 3 3) (w.extractLsb' 6 3)⟩,
    ⟨0xFE00#16, 0x5E00#16, fun w => .tLdshReg (w.extractLsb' 0 3) (w.extractLsb' 3 3) (w.extractLsb' 6 3)⟩,
    ⟨0xF800#16, 0x6000#16, fun w => .tStrImm (w.extractLsb' 0 3) (w.extractLsb' 3 3) ((w.extractLsb' 6 5) ++ 0#2)⟩,
    ⟨0xF800#16, 0x6800#16, fun w => .tLdrImm (w.extractLsb' 0 3) (w.extractLsb' 3 3) ((w.extractLsb' 6 5) ++ 0#2)⟩,
    ⟨0xF800#16, 0x7000#16, fun w => .tStrbImm (w.extractLsb' 0 3) (w.extractLsb' 3 3) (w.extractLsb' 6 5)⟩,
    ⟨0xF800#16, 0x7800#16, fun w => .tLdrbImm (w.extractLsb' 0 3) (w.extractLsb' 3 3) (w.extractLsb' 6 5)⟩,
    ⟨0xF800#16, 0x8000#16, fun w => .tStrhImm (w.extractLsb' 0 3) (w.extractLsb' 3 3) ((w.extractLsb' 6 5) ++ 0#1)⟩,
    ⟨0xF800#16, 0x8800#16, fun w => .tLdrhImm (w.extractLsb' 0 3) (w.extractLsb' 3 3) ((w.extractLsb' 6 5) ++ 0#1)⟩,
    ⟨0xF800#16, 0x9000#16, fun w => .tStrSp (w.extractLsb' 8 3) ((w.extractLsb' 0 8) ++ 0#2)⟩,
    ⟨0xF800#16, 0x9800#16, fun w => .tLdrSp (w.extractLsb' 8 3) ((w.extractLsb' 0 8) ++ 0#2)⟩,
    ⟨0xF800#16, 0xA000#16, fun w => .tAddPc (w.extractLsb' 8 3) ((w.extractLsb' 0 8) ++ 0#2)⟩,
    ⟨0xF800#16, 0xA800#16, fun w => .tAddSp (w.extractLsb' 8 3) ((w.extractLsb' 0 8) ++ 0#2)⟩ ]

/-- Rows: T13 to T15 and the unused patterns of 1011. -/
def thumbRowsStack : List (Row 16) :=
  [ ⟨0xFF80#16, 0xB000#16, fun w => .tAddSpPos ((w.extractLsb' 0 7) ++ 0#2)⟩,
    ⟨0xFF80#16, 0xB080#16, fun w => .tAddSpNeg ((w.extractLsb' 0 7) ++ 0#2)⟩,
    ⟨0xFF00#16, 0xB100#16, fun _ => .tUndefB1⟩,
    ⟨0xFE00#16, 0xB200#16, fun _ => .tUndefB2⟩,
    ⟨0xFE00#16, 0xB400#16, fun w => .tPush (w.getLsbD 8) (w.extractLsb' 0 8)⟩,
    ⟨0xFE00#16, 0xB600#16, fun _ => .tUndefB6⟩,
    ⟨0xFC00#16, 0xB800#16, fun _ => .tUndefB8⟩,
    ⟨0xFE00#16, 0xBC00#16, fun w => .tPop (w.getLsbD 8) (w.extractLsb' 0 8)⟩,
    ⟨0xFE00#16, 0xBE00#16, fun _ => .tUndefBe⟩,
    ⟨0xF800#16, 0xC000#16, fun w => .tStmia (w.extractLsb' 8 3) (w.extractLsb' 0 8)⟩,
    ⟨0xF800#16, 0xC800#16, fun w => .tLdmia (w.extractLsb' 8 3) (w.extractLsb' 0 8)⟩ ]

/-- Rows: T16 to T19. -/
def thumbRowsBranch : List (Row 16) :=
  [ ⟨0xFF00#16, 0xD000#16, fun w => .tBeq ((w.extractLsb' 0 8) ++ 0#1)⟩,
    ⟨0xFF00#16, 0xD100#16, fun w => .tBne ((w.extractLsb' 0 8) ++ 0#1)⟩,
    ⟨0xFF00#16, 0xD200#16, fun w => .tBcs ((w.extractLsb' 0 8) ++ 0#1)⟩,
    ⟨0xFF00#16, 0xD300#16, fun w => .tBcc ((w.extractLsb' 0 8) ++ 0#1)⟩,
    ⟨0xFF00#16, 0xD400#16, fun w => .tBmi ((w.extractLsb' 0 8) ++ 0#1)⟩,
    ⟨0xFF00#16, 0xD500#16, fun w => .tBpl ((w.extractLsb' 0 8) ++ 0#1)⟩,
    ⟨0xFF00#16, 0xD600#16, fun w => .tBvs ((w.extractLsb' 0 8) ++ 0#1)⟩,
    ⟨0xFF00#16, 0xD700#16, fun w => .tBvc ((w.extractLsb' 0 8) ++ 0#1)⟩,
    ⟨0xFF00#16, 0xD800#16, fun w => .tBhi ((w.extractLsb' 0 8) ++ 0#1)⟩,
    ⟨0xFF00#16, 0xD900#16, fun w => .tBls ((w.extractLsb' 0 8) ++ 0#1)⟩,
    ⟨0xFF00#16, 0xDA00#16, fun w => .tBge ((w.extractLsb' 0 8) ++ 0#1)⟩,
    ⟨0xFF00#16, 0xDB00#16, fun w => .tBlt ((w.extractLsb' 0 8) ++ 0#1)⟩,
    ⟨0xFF00#16, 0xDC00#16, fun w => .tBgt ((w.extractLsb' 0 8) ++ 0#1)⟩,
    ⟨0xFF00#16, 0xDD00#16, fun w => .tBle ((w.extractLsb' 0 8) ++ 0#1)⟩,
    ⟨0xFF00#16, 0xDE00#16, fun _ => .tUndefCond14⟩,
    ⟨0xFF00#16, 0xDF00#16, fun w => .tSwi (w.extractLsb' 0 8)⟩,
    ⟨0xF800#16, 0xE000#16, fun w => .tB ((w.extractLsb' 0 11) ++ 0#1)⟩,
    ⟨0xF800#16, 0xE800#16, fun _ => .tUndefBlxSuffix⟩,
    ⟨0xF800#16, 0xF000#16, fun w => .tBlHi (w.extractLsb' 0 11)⟩,
    ⟨0xF800#16, 0xF800#16, fun w => .tBlLo (w.extractLsb' 0 11)⟩ ]

/-- The 85 rows of 32-bit mode. -/
def armRows : List (Row 32) :=
  armRowsLogic ++ armRowsCompare ++ armRowsMove ++ armRowsTransfer ++ armRowsUnlisted

/-- The 82 rows of compressed mode. -/
def thumbRows : List (Row 16) :=
  thumbRowsAlu ++ thumbRowsMem ++ thumbRowsStack ++ thumbRowsBranch

/-- The instruction of the first row that a word matches, if any. -/
def lookup {n : Nat} (rows : List (Row n)) (w : BitVec n) : Option Instr :=
  match rows with
  | [] => none
  | r :: rest => if r.hits w then some (r.build w) else lookup rest w

/-- Decoding a 32-bit word (R125): `none` is an unrecognized encoding that has no row (R131, R136). -/
def decodeArm (w : Word) : Option Instr := lookup armRows w

/-- Decoding a 16-bit halfword (R129). -/
def decodeThumb (h : Half) : Option Instr := lookup thumbRows h

/-! ## Encoding -/

/-- The machine code of one instruction: a 32-bit word or a 16-bit halfword (R120). -/
inductive Code where
  | arm (w : Word)
  | thumb (h : Half)
  deriving DecidableEq, Repr

/-- The encoder: the code of an instruction, its ignored bits as zero. -/
def encode : Instr → Code
  | .andImm c sf rn rd rot imm8 => .arm (fmtA1 c 0b0000#4 sf rn rd rot imm8)
  | .andShImm c sf rn rd shamt ty rm => .arm (fmtA2 c 0b0000#4 sf rn rd shamt ty rm)
  | .andShReg c sf rn rd rs ty rm => .arm (fmtA3 c 0b0000#4 sf rn rd rs ty rm)
  | .eorImm c sf rn rd rot imm8 => .arm (fmtA1 c 0b0001#4 sf rn rd rot imm8)
  | .eorShImm c sf rn rd shamt ty rm => .arm (fmtA2 c 0b0001#4 sf rn rd shamt ty rm)
  | .eorShReg c sf rn rd rs ty rm => .arm (fmtA3 c 0b0001#4 sf rn rd rs ty rm)
  | .subImm c sf rn rd rot imm8 => .arm (fmtA1 c 0b0010#4 sf rn rd rot imm8)
  | .subShImm c sf rn rd shamt ty rm => .arm (fmtA2 c 0b0010#4 sf rn rd shamt ty rm)
  | .subShReg c sf rn rd rs ty rm => .arm (fmtA3 c 0b0010#4 sf rn rd rs ty rm)
  | .rsbImm c sf rn rd rot imm8 => .arm (fmtA1 c 0b0011#4 sf rn rd rot imm8)
  | .rsbShImm c sf rn rd shamt ty rm => .arm (fmtA2 c 0b0011#4 sf rn rd shamt ty rm)
  | .rsbShReg c sf rn rd rs ty rm => .arm (fmtA3 c 0b0011#4 sf rn rd rs ty rm)
  | .addImm c sf rn rd rot imm8 => .arm (fmtA1 c 0b0100#4 sf rn rd rot imm8)
  | .addShImm c sf rn rd shamt ty rm => .arm (fmtA2 c 0b0100#4 sf rn rd shamt ty rm)
  | .addShReg c sf rn rd rs ty rm => .arm (fmtA3 c 0b0100#4 sf rn rd rs ty rm)
  | .adcImm c sf rn rd rot imm8 => .arm (fmtA1 c 0b0101#4 sf rn rd rot imm8)
  | .adcShImm c sf rn rd shamt ty rm => .arm (fmtA2 c 0b0101#4 sf rn rd shamt ty rm)
  | .adcShReg c sf rn rd rs ty rm => .arm (fmtA3 c 0b0101#4 sf rn rd rs ty rm)
  | .sbcImm c sf rn rd rot imm8 => .arm (fmtA1 c 0b0110#4 sf rn rd rot imm8)
  | .sbcShImm c sf rn rd shamt ty rm => .arm (fmtA2 c 0b0110#4 sf rn rd shamt ty rm)
  | .sbcShReg c sf rn rd rs ty rm => .arm (fmtA3 c 0b0110#4 sf rn rd rs ty rm)
  | .rscImm c sf rn rd rot imm8 => .arm (fmtA1 c 0b0111#4 sf rn rd rot imm8)
  | .rscShImm c sf rn rd shamt ty rm => .arm (fmtA2 c 0b0111#4 sf rn rd shamt ty rm)
  | .rscShReg c sf rn rd rs ty rm => .arm (fmtA3 c 0b0111#4 sf rn rd rs ty rm)
  | .tstImm c rn rot imm8 => .arm (fmtA1 c 0b1000#4 true rn 0#4 rot imm8)
  | .tstShImm c rn shamt ty rm => .arm (fmtA2 c 0b1000#4 true rn 0#4 shamt ty rm)
  | .tstShReg c rn rs ty rm => .arm (fmtA3 c 0b1000#4 true rn 0#4 rs ty rm)
  | .teqImm c rn rot imm8 => .arm (fmtA1 c 0b1001#4 true rn 0#4 rot imm8)
  | .teqShImm c rn shamt ty rm => .arm (fmtA2 c 0b1001#4 true rn 0#4 shamt ty rm)
  | .teqShReg c rn rs ty rm => .arm (fmtA3 c 0b1001#4 true rn 0#4 rs ty rm)
  | .cmpImm c rn rot imm8 => .arm (fmtA1 c 0b1010#4 true rn 0#4 rot imm8)
  | .cmpShImm c rn shamt ty rm => .arm (fmtA2 c 0b1010#4 true rn 0#4 shamt ty rm)
  | .cmpShReg c rn rs ty rm => .arm (fmtA3 c 0b1010#4 true rn 0#4 rs ty rm)
  | .cmnImm c rn rot imm8 => .arm (fmtA1 c 0b1011#4 true rn 0#4 rot imm8)
  | .cmnShImm c rn shamt ty rm => .arm (fmtA2 c 0b1011#4 true rn 0#4 shamt ty rm)
  | .cmnShReg c rn rs ty rm => .arm (fmtA3 c 0b1011#4 true rn 0#4 rs ty rm)
  | .orrImm c sf rn rd rot imm8 => .arm (fmtA1 c 0b1100#4 sf rn rd rot imm8)
  | .orrShImm c sf rn rd shamt ty rm => .arm (fmtA2 c 0b1100#4 sf rn rd shamt ty rm)
  | .orrShReg c sf rn rd rs ty rm => .arm (fmtA3 c 0b1100#4 sf rn rd rs ty rm)
  | .movImm c sf rd rot imm8 => .arm (fmtA1 c 0b1101#4 sf 0#4 rd rot imm8)
  | .movShImm c sf rd shamt ty rm => .arm (fmtA2 c 0b1101#4 sf 0#4 rd shamt ty rm)
  | .movShReg c sf rd rs ty rm => .arm (fmtA3 c 0b1101#4 sf 0#4 rd rs ty rm)
  | .bicImm c sf rn rd rot imm8 => .arm (fmtA1 c 0b1110#4 sf rn rd rot imm8)
  | .bicShImm c sf rn rd shamt ty rm => .arm (fmtA2 c 0b1110#4 sf rn rd shamt ty rm)
  | .bicShReg c sf rn rd rs ty rm => .arm (fmtA3 c 0b1110#4 sf rn rd rs ty rm)
  | .mvnImm c sf rd rot imm8 => .arm (fmtA1 c 0b1111#4 sf 0#4 rd rot imm8)
  | .mvnShImm c sf rd shamt ty rm => .arm (fmtA2 c 0b1111#4 sf 0#4 rd shamt ty rm)
  | .mvnShReg c sf rd rs ty rm => .arm (fmtA3 c 0b1111#4 sf 0#4 rd rs ty rm)
  | .mrs c p rd => .arm (fmtA4 c p rd)
  | .msrReg c p fields rm => .arm (fmtA5 c p fields rm)
  | .msrImm c p fields rot imm8 => .arm (fmtA6 c p fields rot imm8)
  | .bx c rm => .arm (fmtA7 c rm)
  | .ldrImm c p u w rn rd off => .arm (fmtA8 c p u false w true rn rd off)
  | .ldrReg c p u w rn rd shamt ty rm => .arm (fmtA9 c p u false w true rn rd shamt ty rm)
  | .strImm c p u w rn rd off => .arm (fmtA8 c p u false w false rn rd off)
  | .strReg c p u w rn rd shamt ty rm => .arm (fmtA9 c p u false w false rn rd shamt ty rm)
  | .ldrbImm c p u w rn rd off => .arm (fmtA8 c p u true w true rn rd off)
  | .ldrbReg c p u w rn rd shamt ty rm => .arm (fmtA9 c p u true w true rn rd shamt ty rm)
  | .strbImm c p u w rn rd off => .arm (fmtA8 c p u true w false rn rd off)
  | .strbReg c p u w rn rd shamt ty rm => .arm (fmtA9 c p u true w false rn rd shamt ty rm)
  | .undefArch c => .arm (fmtA13 c)
  | .ldm c p u sbit w rn list => .arm (fmtA10 c p u sbit w true rn list)
  | .stm c p u sbit w rn list => .arm (fmtA10 c p u sbit w false rn list)
  | .b c off => .arm (fmtA11 c false off)
  | .bl c off => .arm (fmtA11 c true off)
  | .undefCopTransfer c => .arm (fmtA19 c)
  | .undefCopOp c => .arm (fmtA20 c)
  | .swi c comment => .arm (fmtA12 c comment)
  | .mul c sf rd rs rm => .arm (fmtA14 c false sf rd 0#4 rs rm)
  | .mla c sf rd rn rs rm => .arm (fmtA14 c true sf rd rn rs rm)
  | .umull c sf rdHi rdLo rs rm => .arm (fmtA15 c false false sf rdHi rdLo rs rm)
  | .umlal c sf rdHi rdLo rs rm => .arm (fmtA15 c false true sf rdHi rdLo rs rm)
  | .smull c sf rdHi rdLo rs rm => .arm (fmtA15 c true false sf rdHi rdLo rs rm)
  | .smlal c sf rdHi rdLo rs rm => .arm (fmtA15 c true true sf rdHi rdLo rs rm)
  | .swp c rn rd rm => .arm (fmtA16 c false rn rd rm)
  | .swpb c rn rd rm => .arm (fmtA16 c true rn rd rm)
  | .strhReg c p u w rn rd rm => .arm (fmtA17 c p u w false rn rd false true rm)
  | .strhImm c p u w rn rd off => .arm (fmtA18 c p u w false rn rd false true off)
  | .ldrhReg c p u w rn rd rm => .arm (fmtA17 c p u w true rn rd false true rm)
  | .ldrhImm c p u w rn rd off => .arm (fmtA18 c p u w true rn rd false true off)
  | .ldrsbReg c p u w rn rd rm => .arm (fmtA17 c p u w true rn rd true false rm)
  | .ldrsbImm c p u w rn rd off => .arm (fmtA18 c p u w true rn rd true false off)
  | .ldrshReg c p u w rn rd rm => .arm (fmtA17 c p u w true rn rd true true rm)
  | .ldrshImm c p u w rn rd off => .arm (fmtA18 c p u w true rn rd true true off)
  | .undefDoubleword c => .arm (fmtA17 c false false false false 0#4 0#4 true false 0#4)
  | .tLslImm rd rs off5 => .thumb (fmtT1 0b00#2 off5 rs rd)
  | .tLsrImm rd rs off5 => .thumb (fmtT1 0b01#2 off5 rs rd)
  | .tAsrImm rd rs off5 => .thumb (fmtT1 0b10#2 off5 rs rd)
  | .tAddReg rd rs rn => .thumb (fmtT2 false false rn rs rd)
  | .tSubReg rd rs rn => .thumb (fmtT2 false true rn rs rd)
  | .tAddImm3 rd rs imm3 => .thumb (fmtT2 true false imm3 rs rd)
  | .tSubImm3 rd rs imm3 => .thumb (fmtT2 true true imm3 rs rd)
  | .tMovImm8 rd imm8 => .thumb (fmtT3 0b00#2 rd imm8)
  | .tCmpImm8 rd imm8 => .thumb (fmtT3 0b01#2 rd imm8)
  | .tAddImm8 rd imm8 => .thumb (fmtT3 0b10#2 rd imm8)
  | .tSubImm8 rd imm8 => .thumb (fmtT3 0b11#2 rd imm8)
  | .tAnd rd rs => .thumb (fmtT4 0b0000#4 rs rd)
  | .tEor rd rs => .thumb (fmtT4 0b0001#4 rs rd)
  | .tLsl rd rs => .thumb (fmtT4 0b0010#4 rs rd)
  | .tLsr rd rs => .thumb (fmtT4 0b0011#4 rs rd)
  | .tAsr rd rs => .thumb (fmtT4 0b0100#4 rs rd)
  | .tAdc rd rs => .thumb (fmtT4 0b0101#4 rs rd)
  | .tSbc rd rs => .thumb (fmtT4 0b0110#4 rs rd)
  | .tRor rd rs => .thumb (fmtT4 0b0111#4 rs rd)
  | .tTst rd rs => .thumb (fmtT4 0b1000#4 rs rd)
  | .tNeg rd rs => .thumb (fmtT4 0b1001#4 rs rd)
  | .tCmp rd rs => .thumb (fmtT4 0b1010#4 rs rd)
  | .tCmn rd rs => .thumb (fmtT4 0b1011#4 rs rd)
  | .tOrr rd rs => .thumb (fmtT4 0b1100#4 rs rd)
  | .tMul rd rs => .thumb (fmtT4 0b1101#4 rs rd)
  | .tBic rd rs => .thumb (fmtT4 0b1110#4 rs rd)
  | .tMvn rd rs => .thumb (fmtT4 0b1111#4 rs rd)
  | .tAddHi rd rs => .thumb (fmtT5 0b00#2 rd rs)
  | .tCmpHi rd rs => .thumb (fmtT5 0b01#2 rd rs)
  | .tMovHi rd rs => .thumb (fmtT5 0b10#2 rd rs)
  | .tBx rs => .thumb (fmtT5 0b11#2 0#4 rs)
  | .tUndefBxH1 => .thumb (fmtT5 0b11#2 8#4 0#4)
  | .tLdrPc rd off => .thumb (fmtT6 rd off)
  | .tStrReg rd rb ro => .thumb (fmtT7 false false ro rb rd)
  | .tStrbReg rd rb ro => .thumb (fmtT7 false true ro rb rd)
  | .tLdrReg rd rb ro => .thumb (fmtT7 true false ro rb rd)
  | .tLdrbReg rd rb ro => .thumb (fmtT7 true true ro rb rd)
  | .tStrhReg rd rb ro => .thumb (fmtT8 false false ro rb rd)
  | .tLdsbReg rd rb ro => .thumb (fmtT8 false true ro rb rd)
  | .tLdrhReg rd rb ro => .thumb (fmtT8 true false ro rb rd)
  | .tLdshReg rd rb ro => .thumb (fmtT8 true true ro rb rd)
  | .tStrImm rd rb off => .thumb (fmtT9 false false (off.extractLsb' 2 5) rb rd)
  | .tLdrImm rd rb off => .thumb (fmtT9 false true (off.extractLsb' 2 5) rb rd)
  | .tStrbImm rd rb off => .thumb (fmtT9 true false off rb rd)
  | .tLdrbImm rd rb off => .thumb (fmtT9 true true off rb rd)
  | .tStrhImm rd rb off => .thumb (fmtT10 false off rb rd)
  | .tLdrhImm rd rb off => .thumb (fmtT10 true off rb rd)
  | .tStrSp rd off => .thumb (fmtT11 false rd off)
  | .tLdrSp rd off => .thumb (fmtT11 true rd off)
  | .tAddPc rd off => .thumb (fmtT12 false rd off)
  | .tAddSp rd off => .thumb (fmtT12 true rd off)
  | .tAddSpPos off => .thumb (fmtT13 false off)
  | .tAddSpNeg off => .thumb (fmtT13 true off)
  | .tUndefB1 => .thumb (0xB100#16)
  | .tUndefB2 => .thumb (0xB200#16)
  | .tPush r list => .thumb (fmtT14 false r list)
  | .tUndefB6 => .thumb (0xB600#16)
  | .tUndefB8 => .thumb (0xB800#16)
  | .tPop r list => .thumb (fmtT14 true r list)
  | .tUndefBe => .thumb (0xBE00#16)
  | .tStmia rb list => .thumb (fmtT15 false rb list)
  | .tLdmia rb list => .thumb (fmtT15 true rb list)
  | .tBeq off => .thumb (fmtT16 Cond.eq off)
  | .tBne off => .thumb (fmtT16 Cond.ne off)
  | .tBcs off => .thumb (fmtT16 Cond.cs off)
  | .tBcc off => .thumb (fmtT16 Cond.cc off)
  | .tBmi off => .thumb (fmtT16 Cond.mi off)
  | .tBpl off => .thumb (fmtT16 Cond.pl off)
  | .tBvs off => .thumb (fmtT16 Cond.vs off)
  | .tBvc off => .thumb (fmtT16 Cond.vc off)
  | .tBhi off => .thumb (fmtT16 Cond.hi off)
  | .tBls off => .thumb (fmtT16 Cond.ls off)
  | .tBge off => .thumb (fmtT16 Cond.ge off)
  | .tBlt off => .thumb (fmtT16 Cond.lt off)
  | .tBgt off => .thumb (fmtT16 Cond.gt off)
  | .tBle off => .thumb (fmtT16 Cond.le off)
  | .tUndefCond14 => .thumb (0xDE00#16)
  | .tSwi imm8 => .thumb (fmtT17 imm8)
  | .tB off => .thumb (fmtT18 off)
  | .tUndefBlxSuffix => .thumb (0xE800#16)
  | .tBlHi off11 => .thumb (fmtT19 false off11)
  | .tBlLo off11 => .thumb (fmtT19 true off11)

/-- Decoding a piece of code in the instruction set it belongs to. -/
def decode : Code → Option Instr
  | .arm w => decodeArm w
  | .thumb h => decodeThumb h

/-! ## Bytes -/

/-- Why a list of bytes is no instruction. -/
inductive DecodeError where
  /-- Fewer bytes than the instruction set's instruction length (R120). -/
  | truncated
  /-- A 32-bit word that matches no row of the opcode table: an unrecognized encoding (R131). -/
  | unrecognized
  deriving DecidableEq, Repr

/-- The value of bytes stored little-endian, the first at the lowest address (20_memory.md R77). -/
def wordOfBytes (b0 b1 b2 b3 : Byte) : Word := b3 ++ b2 ++ b1 ++ b0

/-- The value of two bytes stored little-endian. -/
def halfOfBytes (b0 b1 : Byte) : Half := b1 ++ b0

/-- The bytes of a piece of code as memory holds them. -/
def Code.bytes : Code → List Byte
  | .arm w => [w.extractLsb' 0 8, w.extractLsb' 8 8, w.extractLsb' 16 8, w.extractLsb' 24 8]
  | .thumb h => [h.extractLsb' 0 8, h.extractLsb' 8 8]

/-- Decoding the front of a byte list in the instruction set the selector `thumb` names: the instruction and the rest. -/
def decodeBytes (thumb : Bool) (bs : List Byte) : Except DecodeError (Instr × List Byte) :=
  match thumb, bs with
  | false, b0 :: b1 :: b2 :: b3 :: rest =>
    match decodeArm (wordOfBytes b0 b1 b2 b3) with
    | some i => .ok (i, rest)
    | none => .error .unrecognized
  | true, b0 :: b1 :: rest =>
    match decodeThumb (halfOfBytes b0 b1) with
    | some i => .ok (i, rest)
    | none => .error .unrecognized
  | _, _ => .error .truncated

/-- The little-endian bytes of a number. -/
def bytesOfNat : Nat → Nat → List Byte
  | 0, _ => []
  | k + 1, w => BitVec.ofNat 8 w :: bytesOfNat k (w / 256)

/-- The host's entry to the decoder: the instruction read from an instruction of `nbits` bits whose bits are `w`, laid out in
memory byte by byte (every bit above `nbits` is zero). Rows of 16 bits are compressed mode, rows of 32 bits 32-bit mode (R120). -/
def decodeTableWord (nbits w : Nat) : Option Instr :=
  match decodeBytes (nbits ≤ 16) (bytesOfNat 4 (w % 2 ^ nbits)) with
  | .ok (i, _) => some i
  | .error _ => none

end Sys2Proof
end

