-- ==== Sys2Proof/Config.lean ====
section
/-! DEFINITION. The configuration record `cfg` of spec/00_scope.md R8: its types, the value of an unwritten byte
(logs 4, 5), and the free values, which have no body (log 7). The record is a field of the state, so that a statement over
every state covers every configuration (log 1). Its accessors, its well-formedness and its default value are in
Sys2Proof/Machine/Params.lean, so that a later repair can mend them. -/

namespace Sys2Proof

/-- The seven processor modes (10_state.md R23). -/
inductive Mode where
  | user | fiq | irq | svc | abt | und | sys
  deriving DecidableEq, Repr

/-- `cfg.unrecognized_policy` and `cfg.swi_policy` (00_scope.md R8; 46_swi_undefined.md R291, R296). -/
inductive TrapPolicy where
  | trap | noEffect
  deriving DecidableEq, Repr

/-- `cfg.unlisted` (49_unlisted_families.md R400). -/
inductive UnlistedPolicy where
  | refuse | armv4t
  deriving DecidableEq, Repr

/-- `cfg.vector.*` (60_exceptions.md R504). No rule uses `reset`, `pabt`, `dabt` or `fiq` (R507; 70_reset_and_hazards.md R601). -/
structure Vectors where
  reset : Word
  undef : Word
  swi : Word
  pabt : Word
  dabt : Word
  irq : Word
  fiq : Word
  deriving DecidableEq, Repr

/-- What a region is made of (20_memory.md R71): a byte store, one of the two read-only images, the register window, or nothing. -/
inductive RegionKind where
  | byteStore | bootImage | cartImage | window | unused
  deriving DecidableEq, Repr

/-- The cycles of an access of each width (70_reset_and_hazards.md R631). -/
structure AccessCost where
  byte : Nat
  half : Nat
  word : Nat
  deriving DecidableEq, Repr

/-- A region (20_memory.md R71): its window, the addresses from `base` on; its store size in bytes; its kind; and its cost, as
`cfg.access_cycles` gives it for a non-sequential and for a sequential access (R95). -/
structure Region where
  base : Nat
  span : Nat
  size : Nat
  kind : RegionKind
  first : AccessCost
  sequential : AccessCost
  deriving DecidableEq, Repr

/-- `cfg.internal_cycles` (70_reset_and_hazards.md R632), one field for each number of its table. -/
structure InternalCycles where
  /-- An instruction that is not executed. -/
  skipped : Nat
  dataProcessing : Nat
  /-- Added with a register-specified shift amount. -/
  registerShift : Nat
  /-- Added when `pc` is written by data processing, a load, LDM or POP. -/
  refill : Nat
  statusTransfer : Nat
  branch : Nat
  branchNotTaken : Nat
  longBranchFirst : Nat
  longBranchSecond : Nat
  load : Nat
  store : Nat
  loadMultiple : Nat
  storeMultiple : Nat
  /-- SWI and an unrecognized encoding under the trap policy. -/
  trap : Nat
  /-- The same under the policy of no effect, for which the table gives no number (log 33). -/
  noEffect : Nat
  /-- `m` for a multiplier of one, two, three and four significant bytes. -/
  multiplier : Vector Nat 4
  /-- Added to `m` by MUL. -/
  mul : Nat
  /-- Added to `m` by MLA. -/
  mla : Nat
  /-- Added to `m` by UMULL and SMULL. -/
  longMultiply : Nat
  /-- Added to `m` by UMLAL and SMLAL. -/
  longAccumulate : Nat
  swap : Nat
  deriving DecidableEq, Repr

/-- `cfg.irq_bit.*` (60_exceptions.md R522). -/
structure IrqBits where
  vblank : Fin 16
  hblank : Fin 16
  /-- Raised by the host only, as `serial`, `keypad` and `gamepak` are. -/
  vcount : Fin 16
  timer : Vector (Fin 16) 4
  serial : Fin 16
  dma : Vector (Fin 16) 4
  keypad : Fin 16
  gamepak : Fin 16
  deriving DecidableEq, Repr

/-- `cfg.off_*`: the register offsets in the window (00_scope.md R8; 20_memory.md R86). -/
structure Offsets where
  ie : Nat
  ifr : Nat
  dispstat : Nat
  vcount : Nat
  ime : Nat
  timer : Vector Nat 4
  dma : Vector Nat 4
  deriving DecidableEq, Repr

/-- The configuration record (00_scope.md R8). `cfg.io_base`, `cfg.io_size` and `cfg.cart_len` are the base and size of the
register window's region and the size of the cartridge's (20_memory.md R72); the two images are bytes of the state's memory
(log 5); `cfg.open_bus` and `cfg.io_other_read` are the free values below. -/
structure Cfg where
  /-- Lead of a read of the program counter in 32-bit mode (10_state.md R27). -/
  armPcAhead : Word
  /-- Lead in compressed mode (10_state.md R27, decision D2, conflict C1). -/
  thumbPcAhead : Word
  vector : Vectors
  /-- The program counter after reset and after loading a cartridge (10_state.md R40, 60_exceptions.md R596). -/
  entry : Word
  resetMode : Mode
  unrecognizedPolicy : TrapPolicy
  swiPolicy : TrapPolicy
  unlisted : UnlistedPolicy
  /-- The region table, in ascending order of addresses, with the access costs (20_memory.md R71, R72). -/
  regions : List Region
  internal : InternalCycles
  irqEntryCycles : Nat
  dmaOverheadCycles : Nat
  offset : Offsets
  irqBit : IrqBits
  /-- The four prescaler periods in cycles (60_exceptions.md R541; decision D21). -/
  prescale : Vector (BitVec 11) 4
  /-- The width of each channel's count field (60_exceptions.md R568; decision D26). -/
  dmaCountBits : Vector Nat 4
  deriving DecidableEq, Repr

namespace Config

/-- The largest `cfg.cart_len` the spec admits (00_scope.md R8). -/
def cartLenMax : Nat := 0x02000000

/-- What a byte of a store or image that nothing has written reads as.
DESIGN CHOICE (logs 4, 5), unsafe: the spec leaves those bytes unspecified (10_state.md R40, 00_scope.md R8). -/
def unlistedByte : Byte := 0#8

/-- `cfg.open_bus`: the value of the `k`-th draw when it is a read of `n` bytes at an UNUSED address
(20_memory.md R74). A free value: nothing constrains it (log 7). -/
opaque openBus (k : Nat) (a : Word) (n : Nat) : Word

/-- `cfg.io_other_read`: the value of the `k`-th draw when it is a read of an unrouted register-window offset
(20_memory.md R86). A free value: nothing constrains it (log 7). -/
opaque ioOtherRead (k : Nat) (off : Nat) : Half

end Config

end Sys2Proof
end

