-- ==== Sys2Proof/Machine/Params.lean ====
section
/-! DEFINITION. The configuration record `cfg` (spec/00_scope.md R8): what it means at an address, when it is one the spec admits,
and its default value, each number as the spec gives it (log 1), with the policies of logs 1 and 2. -/

namespace Sys2Proof

/-! ## Reading the record -/

/-- Lead of a read of register 15 in the three cases the spec fixes at 12: format A3, a store by STR, a store by STM
(10_state.md R27; 41_data_processing.md R200; 42_single_transfer.md R231; 43_block_transfer.md R251). -/
def Config.armPcStoreAhead : Word := 12#32

/-- Whether a region's window holds an address. -/
def Region.holds (r : Region) (k : Nat) : Bool := r.base ≤ k && k < r.base + r.span

/-- The region a table gives an address that none of its windows holds; a table the spec admits has none (20_memory.md R71). -/
def Region.absent : Region :=
  { base := 0, span := 0, size := 0, kind := .unused, first := ⟨0, 0, 0⟩, sequential := ⟨0, 0, 0⟩ }

/-- The region of an address in a table: the first whose window holds it (20_memory.md R71). -/
def regionAt : List Region → Nat → Region
  | [], _ => Region.absent
  | r :: rest, k => if r.holds k then r else regionAt rest k

/-- Whether a region is one of the two read-only images (20_memory.md R72, R75). -/
def RegionKind.isImage : RegionKind → Bool
  | .bootImage | .cartImage => true
  | .byteStore | .window | .unused => false

/-- Whether the bytes of a region stand in memory: a byte store or an image. -/
def RegionKind.isBacked : RegionKind → Bool
  | .byteStore | .bootImage | .cartImage => true
  | .window | .unused => false

/-- The first region of a kind. -/
def Cfg.regionOfKind (c : Cfg) (k : RegionKind) : Region := (c.regions.find? (fun r => r.kind == k)).getD Region.absent

/-- `cfg.io_base`. -/
def Cfg.ioBase (c : Cfg) : Nat := (c.regionOfKind .window).base
/-- `cfg.io_size`. -/
def Cfg.ioSize (c : Cfg) : Nat := (c.regionOfKind .window).size
/-- `cfg.cart_len`. -/
def Cfg.cartLen (c : Cfg) : Nat := (c.regionOfKind .cartImage).size

/-- `cfg.cart_len <- len` (60_exceptions.md R596). -/
def Cfg.setCartLen (len : Nat) (c : Cfg) : Cfg :=
  { c with regions := c.regions.map (fun r => if r.kind == .cartImage then { r with size := len } else r) }

/-- `cfg.prescale[sel]` (60_exceptions.md R541). -/
def Cfg.period (c : Cfg) (sel : BitVec 2) : BitVec 11 := c.prescale[sel.toNat]'sel.isLt

/-! ## The records the spec admits -/

/-- The windows of a table follow one another from `lo` to the end of the address space, so that every address lies in exactly one
(20_memory.md R71); each begins at a multiple of 4. -/
def regionsCover : Nat → List Region → Bool
  | lo, [] => lo == 2 ^ 32
  | lo, r :: rest => r.base == lo && lo % 4 == 0 && 0 < r.span && regionsCover (lo + r.span) rest

/-- What one region must satisfy (20_memory.md R71, 00_scope.md R8): a store size that is a multiple of 4 and, where bytes or
registers stand in it, not zero; a cartridge window that holds the longest image (log 5). -/
def Region.ok (r : Region) : Bool :=
  r.size % 4 == 0 && (r.kind == .unused || r.size != 0) &&
    (r.kind != .cartImage || (r.size ≤ Config.cartLenMax && Config.cartLenMax ≤ r.span))

/-- The offsets an `Offsets` record gives out: each register's first byte and its number of bytes. -/
def Offsets.blocks (o : Offsets) : List (Nat × Nat) :=
  [(o.ie, 2), (o.ifr, 2), (o.dispstat, 2), (o.vcount, 2), (o.ime, 2)] ++ o.timer.toList.map (fun k => (k, 4))
    ++ o.dma.toList.map (fun k => (k, 12))

/-- "The offsets must be even and the listed ranges disjoint" (20_memory.md R86). -/
def Offsets.ok (o : Offsets) : Bool :=
  o.blocks.all (fun p => p.1 % 2 == 0) &&
    decide (o.blocks.Pairwise (fun p q => p.1 + p.2 ≤ q.1 ∨ q.1 + q.2 ≤ p.1))

/-- The vectors that rules use, and the entry point, are aligned (10_state.md R26, 93_implementation_defined.md U14). -/
def Cfg.aligned (c : Cfg) : Bool :=
  c.entry.toNat % 4 == 0 && c.vector.undef.toNat % 4 == 0 && c.vector.swi.toNat % 4 == 0 && c.vector.irq.toNat % 4 == 0

/-- A configuration the spec admits (00_scope.md R8, 20_memory.md R71, R86): a table that covers the address space, with one region of
each image and one register window; offsets even and disjoint; vectors and entry aligned; no prescaler period of 0; a count field that fits
in the count register. -/
def Cfg.ok (c : Cfg) : Bool :=
  regionsCover 0 c.regions && c.regions.all Region.ok &&
    [RegionKind.bootImage, .cartImage, .window].all (fun k => (c.regions.filter (fun r => r.kind == k)).length == 1) &&
    c.offset.ok && c.aligned && c.prescale.toList.all (fun p => p != 0#11) &&
    c.dmaCountBits.toList.all (fun b => 1 ≤ b && b ≤ 16)

/-! ## The default value -/

namespace Config

/-- `cfg.vector.*`: general knowledge, decision D17. -/
def vectors : Vectors :=
  { reset := 0x00#32, undef := 0x04#32, swi := 0x08#32, pabt := 0x0C#32, dabt := 0x10#32, irq := 0x18#32, fiq := 0x1C#32 }

/-- A cost that no access distinguishes. -/
def oneCycle : AccessCost := ⟨1, 1, 1⟩

/-- A region whose cost does not distinguish sequential accesses. -/
def region (base span size : Nat) (kind : RegionKind) (cost : AccessCost) : Region :=
  { base := base, span := span, size := size, kind := kind, first := cost, sequential := cost }

/-- `cfg.regions` (20_memory.md R72) with `cfg.access_cycles` (70_reset_and_hazards.md R631): BOOT, UNUSED, EWRAM, IWRAM, IO, PAL,
VRAM, OAM, CART, UNUSED. -/
def regions : List Region :=
  [ region 0x00000000 0x01000000 0x4000 .bootImage oneCycle
  , region 0x01000000 0x01000000 0 .unused oneCycle
  , region 0x02000000 0x01000000 0x40000 .byteStore ⟨3, 3, 6⟩
  , region 0x03000000 0x01000000 0x8000 .byteStore oneCycle
  , region 0x04000000 0x01000000 0x400 .window oneCycle
  , region 0x05000000 0x01000000 0x400 .byteStore ⟨1, 1, 2⟩
  , region 0x06000000 0x01000000 0x18000 .byteStore ⟨1, 1, 2⟩
  , region 0x07000000 0x01000000 0x400 .byteStore oneCycle
  , { region 0x08000000 0x06000000 cartLenMax .cartImage ⟨5, 5, 8⟩ with sequential := ⟨3, 3, 6⟩ }
  , region 0x0E000000 0xF2000000 0 .unused oneCycle ]

/-- `cfg.internal_cycles` (70_reset_and_hazards.md R632). The table gives SWI and an unrecognized encoding a number under the trap policy
only. DESIGN CHOICE (log 33): under the policy of no effect they cost 0. -/
def internal : InternalCycles :=
  { skipped := 0, dataProcessing := 0, registerShift := 1, refill := 2, statusTransfer := 0, branch := 2, branchNotTaken := 0
    longBranchFirst := 0, longBranchSecond := 2, load := 1, store := 0, loadMultiple := 1, storeMultiple := 0, trap := 2
    noEffect := 0, multiplier := #v[1, 2, 3, 4], mul := 0, mla := 1, longMultiply := 1, longAccumulate := 2, swap := 1 }

/-- `cfg.off_*`: the document's five offsets (conflict C2), the console's timer and DMA blocks (decision D13). -/
def offsets : Offsets :=
  { ie := 0x00, ifr := 0x02, dispstat := 0x04, vcount := 0x06, ime := 0x08
    timer := #v[0x100, 0x104, 0x108, 0x10C], dma := #v[0x0B0, 0x0BC, 0x0C8, 0x0D4] }

/-- `cfg.irq_bit.*` (60_exceptions.md R522; decision D19). -/
def irqBits : IrqBits :=
  { vblank := 0, hblank := 1, vcount := 2, timer := #v[3, 4, 5, 6], serial := 7, dma := #v[8, 9, 10, 11], keypad := 12
    gamepak := 13 }

/-- Every parameter at the default the spec gives (00_scope.md R8); `cfg.unlisted` at the value that runs the unlisted families
(log 2); `cfg.cart_len`, for which there is no default, at the largest (log 5). -/
def default : Cfg :=
  { armPcAhead := 8#32
    thumbPcAhead := 4#32
    vector := vectors
    entry := 0x08000000#32
    resetMode := .svc
    unrecognizedPolicy := .trap
    swiPolicy := .trap
    unlisted := .armv4t
    regions := regions
    internal := internal
    irqEntryCycles := 3
    dmaOverheadCycles := 2
    offset := offsets
    irqBit := irqBits
    prescale := #v[1#11, 64#11, 256#11, 1024#11]
    dmaCountBits := #v[14, 14, 14, 16] }

end Config

end Sys2Proof
end

