-- ==== Sys2Proof/Machine/State.lean ====
section
/-! DEFINITION. The state of the rgba CORE as plain data (spec/10_state.md R20 to R40), the reasons a step can stop,
and the state right after reset (70_reset_and_hazards.md R600). -/

namespace Sys2Proof.Machine

/-- Why a step stops where the spec leaves the machine no behaviour at all. "No condition inside the core is fatal"
(60_exceptions.md R508), so there is one reason only. -/
inductive Fault where
  /-- Raised by a write that would put into CPSR.M a number that is none of the seven modes: MSR, and a copy of an
  SPSR into CPSR (10_state.md R31, 93_implementation_defined.md U4: `refuse` or `stuck`). Safe. -/
  | illegalMode
  deriving DecidableEq, Repr

/-- Why the model declines to give a step a result. -/
inductive Refusal where
  /-- An instruction that has no meaning yet, by the opcode table's mnemonic. Raised by refused arms of `exec`. Safe. -/
  | notModelled (mnemonic : String)
  /-- Raised by an instruction that reads, writes or copies the SPSR in User or System mode, which have none
  (10_state.md R30, 93_implementation_defined.md U3: `refuse`). Safe. -/
  | noSpsr
  /-- Raised by an instruction of an unlisted family, when its condition holds, in a state whose `cfg.unlisted` is `refuse`
  (49_unlisted_families.md R400: "the model stops: it does not claim any behaviour for this step"). Safe. -/
  | unlistedFamily
  /-- Raised by the host call `load_cartridge` when the length is not a non-zero multiple of 4 of at most 0x02000000
  (00_scope.md R8 `cfg.cart_len`). Safe. -/
  | cartridgeLength
  deriving DecidableEq, Repr

/-- The current status word: its implemented bits (10_state.md R28; bits 27:8 do not exist, decision D9). -/
structure Cpsr where
  /-- Bit 31: the result was negative. -/
  n : Bool
  /-- Bit 30: the result was zero. -/
  z : Bool
  /-- Bit 29: carry out, not-borrow, or shifter carry. -/
  c : Bool
  /-- Bit 28: signed overflow. -/
  v : Bool
  /-- Bit 7: interrupt requests masked. -/
  i : Bool
  /-- Bit 6: fast interrupts masked; stored, no function (60_exceptions.md R507). -/
  f : Bool
  /-- Bit 5: the instruction-set selector, true in compressed mode. -/
  t : Bool
  /-- Bits 4:0: the mode. -/
  mode : Mode
  deriving DecidableEq, Repr

/-- A saved status word: the same bits, but its mode field may hold any five bits (10_state.md R30, R31; log 10). -/
structure Psr where
  n : Bool
  z : Bool
  c : Bool
  v : Bool
  i : Bool
  f : Bool
  t : Bool
  m : BitVec 5
  deriving DecidableEq, Repr

/-- The five saved status words, one per exception mode (10_state.md R30). -/
structure SpsrFile where
  fiq : Psr
  irq : Psr
  svc : Psr
  abt : Psr
  und : Psr
  deriving DecidableEq, Repr

/-- One timer (10_state.md R34). -/
structure Timer where
  /-- The running counter. -/
  counter : Half
  /-- The reload value. -/
  reload : Half
  /-- The control word (60_exceptions.md R541). -/
  ctrl : Half
  /-- The cycles left to the next prescaler tick, 1 to 1024. -/
  div : BitVec 11
  deriving DecidableEq, Repr

/-- One DMA channel (10_state.md R35). -/
structure DmaChannel where
  src : Word
  dst : Word
  count : Half
  /-- The control word (60_exceptions.md R561). -/
  ctrl : Half
  /-- Triggered and not yet served (decision D35). -/
  active : Bool
  deriving DecidableEq, Repr

/-- The registers of the devices (10_state.md R33 to R36). -/
structure Devices where
  /-- Interrupt Enable. -/
  ie : Half
  /-- Interrupt Request (IF). -/
  ifr : Half
  /-- Interrupt Master Enable; bit 0 acts. -/
  ime : Half
  timers : Vector Timer 4
  dma : Vector DmaChannel 4
  dispstat : Half
  vcount : Half
  deriving DecidableEq, Repr

/-- The three access widths: 1, 2 and 4 bytes (20_memory.md R70). -/
inductive Width where
  | byte | half | word
  deriving DecidableEq, Repr

/-- What a step hands to the host (60_exceptions.md R597). The model's own field holds these (log 13). -/
inductive Output where
  /-- The overflow pulse of timer `n` (60_exceptions.md R545). -/
  | overflow (n : Fin 4)
  /-- A write to an unrouted register-window offset: offset, value, byte enables (20_memory.md R87). -/
  | unroutedWrite (off : Nat) (v : Half) (be : BitVec 2)
  deriving DecidableEq, Repr

/-- The calls by which the host acts on the CORE (60_exceptions.md R590 to R596, 70_reset_and_hazards.md R600). -/
inductive HostCall where
  /-- `cpu_step()` alone, without the rest of a turn of the reference schedule. -/
  | cpuStep
  | timersAdvance (c : Nat)
  | dmaAdvance
  | signalVblankStart
  | signalHblankStart
  | signalDmaSpecial (ch : Fin 4)
  | irqRaise (k : Fin 16)
  | hostSetDisplay (flags : BitVec 3) (line : Half)
  /-- The image, lowest address first; its length is `cfg.cart_len`. -/
  | loadCartridge (image : List Byte)
  | reset
  deriving DecidableEq, Repr

/-- The state of the CORE (10_state.md R20), the two images, and the model's own fields. -/
structure State where
  /-- The 30 physical general registers (10_state.md R22), in the order of `physIndex`. -/
  regs : Vector Word 30
  /-- The real program counter: the address of the instruction to execute (10_state.md R26). -/
  pc : Word
  cpsr : Cpsr
  spsr : SpsrFile
  dev : Devices
  /-- The bytes of the writable stores and of the two images, keyed by (window base + offset in the store), in the
  canonical form `memWf` (10_state.md R37). -/
  mem : List Host.Cell
  /-- The configuration `cfg` (00_scope.md R8; log 1): every rule reads it, only `load_cartridge` changes it (`cfg.cart_len`). -/
  cfg : Cfg
  /-- `bus.last`: address and width of the last access (10_state.md R38). -/
  busLast : Option (Word × Width)
  /-- The model's own: the cycle count of the step (40_execution_common.md R175; log 13). -/
  cycles : Nat
  /-- The model's own: what the step hands to the host, oldest first (log 13). -/
  outputs : List Output
  /-- The model's own: the number of draws consumed, the index of the next free value (log 7). -/
  draws : Nat
  /-- The model's own: host calls not yet made, oldest first (log 6). -/
  inputs : List HostCall
  deriving DecidableEq, Repr

/-- DESIGN CHOICE (log 3): the value of a saved status word after reset. -/
def Psr.atReset : Psr :=
  { n := false, z := false, c := false, v := false, i := false, f := false, t := false, m := 0#5 }

/-- A timer after reset (10_state.md R40): all zero, `div` at `cfg.prescale[0]`. -/
def Timer.atReset (cfg : Cfg) : Timer :=
  { counter := 0#16, reload := 0#16, ctrl := 0#16, div := cfg.period 0#2 }

/-- A DMA channel after reset (10_state.md R40). -/
def DmaChannel.atReset : DmaChannel :=
  { src := 0#32, dst := 0#32, count := 0#16, ctrl := 0#16, active := false }

/-- The device registers after reset: "all peripheral registers zeroed" (10_state.md R40). -/
def Devices.atReset (cfg : Cfg) : Devices :=
  { ie := 0#16, ifr := 0#16, ime := 0#16
    timers := Vector.replicate 4 (Timer.atReset cfg)
    dma := Vector.replicate 4 DmaChannel.atReset
    dispstat := 0#16, vcount := 0#16 }

/-- The machine of a configuration right after reset (10_state.md R40, 70_reset_and_hazards.md R600). The flags, the general
registers, the SPSRs and the memories are unspecified there: the values here are DESIGN CHOICE (logs 3, 4, 5). -/
def State.resetWith (cfg : Cfg) : State :=
  { regs := Vector.replicate 30 0#32
    pc := cfg.entry
    cpsr := { n := false, z := false, c := false, v := false, i := true, f := true, t := false
              mode := cfg.resetMode }
    spsr := { fiq := Psr.atReset, irq := Psr.atReset, svc := Psr.atReset, abt := Psr.atReset, und := Psr.atReset }
    dev := Devices.atReset cfg
    mem := []
    cfg := cfg
    busLast := none
    cycles := 0
    outputs := []
    draws := 0
    inputs := [] }

/-- The machine right after reset, with every parameter at its default (00_scope.md R8; log 1). -/
def State.reset : State := State.resetWith Config.default

/-- The outcome of a step or of a meaning. -/
abbrev Result := Host.Outcome State Fault Refusal

end Sys2Proof.Machine
end

