-- ==== Sys2Proof/Machine/Window.lean ====
section
/-! DEFINITION. The register window: routing of offsets to device registers and the effect of a 16-bit access
(spec/20_memory.md R85 to R88), with the register handlers of the interrupt controller, the timers and the DMA channels
(spec/60_exceptions.md R520 to R528, R540 to R544, R560 to R563, R593). -/

namespace Sys2Proof.Machine

/-! ## Interrupt controller -/

/-- `irq_line()` (60_exceptions.md R520). -/
def irqLine (d : Devices) : Bool :=
  d.ime.getLsbD 0 && (d.ie &&& d.ifr) != 0#16

/-- `irq_winner()` (60_exceptions.md R526): the lowest-numbered enabled and requested bit. No rule reads it. -/
def irqWinner (d : Devices) : Option (Fin 16) :=
  (List.finRange 16).find? (fun k => (d.ie &&& d.ifr).getLsbD k.val)

/-- `set_request(k)` (60_exceptions.md R527). -/
def setRequest (k : Fin 16) (d : Devices) : Devices :=
  { d with ifr := d.ifr ||| (1#16 <<< k.val) }

/-! ## Field access -/

/-- The timer's enable bit (60_exceptions.md R541). -/
def Timer.enabled (t : Timer) : Bool := t.ctrl.getLsbD 7
/-- The timer's cascade bit. -/
def Timer.cascade (t : Timer) : Bool := t.ctrl.getLsbD 2
/-- The timer's irq-enable bit. -/
def Timer.irqEnabled (t : Timer) : Bool := t.ctrl.getLsbD 6
/-- The timer's prescaler period. -/
def Timer.period (cfg : Cfg) (t : Timer) : BitVec 11 := cfg.period (t.ctrl.extractLsb' 0 2)

/-- The channel's enable bit (60_exceptions.md R561). -/
def DmaChannel.enabled (c : DmaChannel) : Bool := c.ctrl.getLsbD 15
/-- The channel's completion-IRQ bit. -/
def DmaChannel.irqEnabled (c : DmaChannel) : Bool := c.ctrl.getLsbD 14
/-- The channel's trigger field. -/
def DmaChannel.trigger (c : DmaChannel) : BitVec 2 := c.ctrl.extractLsb' 12 2
/-- The channel's transfer width (bit 10): a word or a halfword. -/
def DmaChannel.unit (c : DmaChannel) : Width := if c.ctrl.getLsbD 10 then .word else .half
/-- The channel's repeat bit. -/
def DmaChannel.repeats (c : DmaChannel) : Bool := c.ctrl.getLsbD 9
/-- The channel's source increment mode. -/
def DmaChannel.srcMode (c : DmaChannel) : BitVec 2 := c.ctrl.extractLsb' 7 2
/-- The channel's destination increment mode. -/
def DmaChannel.dstMode (c : DmaChannel) : BitVec 2 := c.ctrl.extractLsb' 5 2

/-- Replacing one timer. -/
def setTimer (n : Fin 4) (t : Timer) (d : Devices) : Devices :=
  { d with timers := d.timers.set n.val t n.isLt }

/-- Replacing one DMA channel. -/
def setDma (ch : Fin 4) (c : DmaChannel) (d : Devices) : Devices :=
  { d with dma := d.dma.set ch.val c ch.isLt }

/-! ## Register handlers -/

/-- The bits a write with byte enables `be` touches (20_memory.md R85). -/
def byteMask (be : BitVec 2) : Half :=
  (if be.getLsbD 1 then 0xFF00#16 else 0#16) ||| (if be.getLsbD 0 then 0x00FF#16 else 0#16)

/-- `merge(old)` (20_memory.md R85). -/
def merge (mask v old : Half) : Half := (old &&& ~~~mask) ||| (v &&& mask)

/-- `timer_write_data(n, v)` (60_exceptions.md R542). -/
def timerWriteData (n : Fin 4) (v : Half) (d : Devices) : Devices :=
  setTimer n { d.timers[n.val] with reload := v, counter := v } d

/-- `timer_write_ctrl(n, v)` (60_exceptions.md R543). -/
def timerWriteCtrl (cfg : Cfg) (n : Fin 4) (v : Half) (d : Devices) : Devices :=
  let old := d.timers[n.val]
  let restart := (!old.ctrl.getLsbD 7 && v.getLsbD 7) || old.ctrl.extractLsb' 0 2 != v.extractLsb' 0 2
  setTimer n { old with ctrl := v, div := if restart then cfg.period (v.extractLsb' 0 2) else old.div } d

/-- The address and count registers of a channel, by half (60_exceptions.md R560, R562). -/
inductive DmaReg where
  | srcLo | srcHi | dstLo | dstHi | count
  deriving DecidableEq, Repr

/-- The low half of a word replaced. -/
def withLow (w : Word) (h : Half) : Word := w.extractLsb' 16 16 ++ h

/-- The high half of a word replaced. -/
def withHigh (w : Word) (h : Half) : Word := h ++ w.extractLsb' 0 16

/-- `dma_write_reg(ch, r, v, mask)` (60_exceptions.md R562): dropped while the channel is active. That covers a transfer which writes
the address or count registers of its own channel, since `active` is 1 during the run; 93_implementation_defined.md U13 describes
them as overwritten and then advanced instead. DESIGN CHOICE (log 18): R562 is followed and the write is dropped. -/
def dmaWriteReg (ch : Fin 4) (r : DmaReg) (v mask : Half) (d : Devices) : Devices :=
  let c := d.dma[ch.val]
  if c.active then d
  else
    match r with
    | .srcLo => setDma ch { c with src := withLow c.src (merge mask v (c.src.extractLsb' 0 16)) } d
    | .srcHi => setDma ch { c with src := withHigh c.src (merge mask v (c.src.extractLsb' 16 16)) } d
    | .dstLo => setDma ch { c with dst := withLow c.dst (merge mask v (c.dst.extractLsb' 0 16)) } d
    | .dstHi => setDma ch { c with dst := withHigh c.dst (merge mask v (c.dst.extractLsb' 16 16)) } d
    | .count => setDma ch { c with count := merge mask v c.count } d

/-- `dma_write_ctrl(ch, v)` (60_exceptions.md R563). -/
def dmaWriteCtrl (ch : Fin 4) (v : Half) (d : Devices) : Devices :=
  let c := d.dma[ch.val]
  let active :=
    if !c.ctrl.getLsbD 15 && v.getLsbD 15 then
      (if v.extractLsb' 12 2 == 0#2 then true else c.active)
    else if c.ctrl.getLsbD 15 && !v.getLsbD 15 then false
    else c.active
  setDma ch { c with ctrl := v, active := active } d

/-! ## Routing -/

/-- The register an even window offset names (20_memory.md R86, R87). -/
inductive IoReg where
  | ie | ifr | dispstat | vcount | ime
  | timerData (n : Fin 4)
  | timerCtrl (n : Fin 4)
  | dmaReg (ch : Fin 4) (r : DmaReg)
  | dmaCtrl (ch : Fin 4)
  /-- An offset the CORE does not route (decision D15). -/
  | other
  deriving DecidableEq, Repr

/-- The register a DMA block offset names. -/
def dmaRegAt (ch : Fin 4) (r : Nat) : IoReg :=
  match r with
  | 0 => .dmaReg ch .srcLo
  | 2 => .dmaReg ch .srcHi
  | 4 => .dmaReg ch .dstLo
  | 6 => .dmaReg ch .dstHi
  | 8 => .dmaReg ch .count
  | 10 => .dmaCtrl ch
  | _ => .other

/-- The offset table of 20_memory.md R86 and R87, with the offsets of the configuration. -/
def ioRegAt (o : Offsets) (off : Nat) : IoReg :=
  if off = o.ie then .ie
  else if off = o.ifr then .ifr
  else if off = o.dispstat then .dispstat
  else if off = o.vcount then .vcount
  else if off = o.ime then .ime
  else
    match [(0 : Fin 4), 1, 2, 3].find? (fun n => o.timer[n.val] ≤ off && off < o.timer[n.val] + 4) with
    | some n =>
      if off = o.timer[n.val] then .timerData n
      else if off = o.timer[n.val] + 2 then .timerCtrl n
      else .other
    | none =>
      match [(0 : Fin 4), 1, 2, 3].find? (fun ch => o.dma[ch.val] ≤ off && off < o.dma[ch.val] + 12) with
      | some ch => dmaRegAt ch (off - o.dma[ch.val])
      | none => .other

/-- The value of a routed register (20_memory.md R86); none for an unrouted offset. -/
def ioRegValue (d : Devices) : IoReg → Option Half
  | .ie => some d.ie
  | .ifr => some d.ifr
  | .dispstat => some d.dispstat
  | .vcount => some d.vcount
  | .ime => some d.ime
  | .timerData n => some d.timers[n.val].counter
  | .timerCtrl n => some d.timers[n.val].ctrl
  | .dmaReg ch .srcLo => some (d.dma[ch.val].src.extractLsb' 0 16)
  | .dmaReg ch .srcHi => some (d.dma[ch.val].src.extractLsb' 16 16)
  | .dmaReg ch .dstLo => some (d.dma[ch.val].dst.extractLsb' 0 16)
  | .dmaReg ch .dstHi => some (d.dma[ch.val].dst.extractLsb' 16 16)
  | .dmaReg ch .count => some d.dma[ch.val].count
  | .dmaCtrl ch => some d.dma[ch.val].ctrl
  | .other => none

/-- `io_read16(off)` (20_memory.md R86): an unrouted offset reads as a fresh draw. -/
def ioRead16 (off : Nat) (s : State) : Half × State :=
  match ioRegValue s.dev (ioRegAt s.cfg.offset off) with
  | some v => (v, s)
  | none => (Config.ioOtherRead s.draws off, { s with draws := s.draws + 1 })

/-- The effect of a 16-bit write on the devices (20_memory.md R87). -/
def ioRegWrite (cfg : Cfg) (r : IoReg) (v : Half) (be : BitVec 2) (d : Devices) : Devices :=
  let mask := byteMask be
  match r with
  | .ie => { d with ie := merge mask v d.ie }
  | .ifr => { d with ifr := d.ifr &&& ~~~(v &&& mask) }
  | .dispstat => { d with dispstat := merge mask v d.dispstat }
  | .vcount => d
  | .ime => { d with ime := merge mask v d.ime }
  | .timerData n => timerWriteData n (merge mask v d.timers[n.val].reload) d
  | .timerCtrl n => timerWriteCtrl cfg n (merge mask v d.timers[n.val].ctrl) d
  | .dmaReg ch r => dmaWriteReg ch r v mask d
  | .dmaCtrl ch => dmaWriteCtrl ch (merge mask v d.dma[ch.val].ctrl) d
  | .other => d

/-- `io_write16(off, v, be)` (20_memory.md R87): a write to an unrouted offset is an output event. -/
def ioWrite16 (off : Nat) (v : Half) (be : BitVec 2) (s : State) : State :=
  match ioRegAt s.cfg.offset off with
  | .other => { s with outputs := s.outputs ++ [.unroutedWrite off v be] }
  | r => { s with dev := ioRegWrite s.cfg r v be s.dev }

/-! ## Accesses of every width (R85) -/

/-- `io_read(off, n)`; `off` is a multiple of the width. -/
def ioRead (off : Nat) (n : Width) (s : State) : Word × State :=
  match n with
  | .byte =>
    let (h, s1) := ioRead16 (off - off % 2) s
    (((h >>> (8 * (off % 2))).setWidth 8).setWidth 32, s1)
  | .half =>
    let (h, s1) := ioRead16 off s
    (h.setWidth 32, s1)
  | .word =>
    let (lo, s1) := ioRead16 off s
    let (hi, s2) := ioRead16 (off + 2) s1
    (hi ++ lo, s2)

/-- `io_write(off, n, v)`; the low half of a word first. -/
def ioWrite (off : Nat) (n : Width) (v : Word) (s : State) : State :=
  match n with
  | .byte => ioWrite16 (off - off % 2) ((v.extractLsb' 0 8).setWidth 16 <<< (8 * (off % 2))) (0b01#2 <<< (off % 2)) s
  | .half => ioWrite16 off (v.extractLsb' 0 16) 0b11#2 s
  | .word => ioWrite16 (off + 2) (v.extractLsb' 16 16) 0b11#2 (ioWrite16 off (v.extractLsb' 0 16) 0b11#2 s)

end Sys2Proof.Machine
end

