-- ==== Sys2Proof/Machine/Memory.lean ====
section
/-! DEFINITION. The address space: regions, mirroring, the byte stores in canonical form, the cost of an access, and the two
memory primitives (spec/20_memory.md R70 to R84, R95; spec/70_reset_and_hazards.md R631). -/

namespace Sys2Proof.Machine

/-! ## Byte stores -/

/-- The byte a store or image holds under a key. -/
def memGet : List Host.Cell → Nat → Byte
  | [], _ => Config.unlistedByte
  | (k, b) :: rest, a => if k = a then b else memGet rest a

/-- Listing a byte under a key, keeping keys rising. -/
def memPut : List Host.Cell → Nat → Byte → List Host.Cell
  | [], a, v => [(a, v)]
  | (k, b) :: rest, a, v =>
    if a < k then (a, v) :: (k, b) :: rest
    else if a = k then (a, v) :: rest
    else (k, b) :: memPut rest a v

/-- Writing one byte: a byte that an unlisted key reads as is not listed, every other one is. -/
def memSet (mem : List Host.Cell) (a : Nat) (v : Byte) : List Host.Cell :=
  if v = Config.unlistedByte then mem.filter (fun c => c.1 != a) else memPut mem a v

/-- Every key of the list is above `lo`, keys rise strictly, and no entry equals what an unlisted key reads as. -/
def memWfAbove (lo : Nat) : List Host.Cell → Bool
  | [] => true
  | (k, b) :: rest => decide (lo < k) && b != Config.unlistedByte && memWfAbove k rest

/-- The canonical form of memory: equal memories are equal lists. -/
def memWf : List Host.Cell → Bool
  | [] => true
  | (k, b) :: rest => b != Config.unlistedByte && memWfAbove k rest

/-! ## Regions -/

/-- The region of an address (20_memory.md R71, R72). -/
def regionOf (cfg : Cfg) (a : Word) : Region := regionAt cfg.regions a.toNat

/-- The offset of an address in its region's store: its distance from the window base modulo the store size
(20_memory.md R72, R73). -/
def offsetOf (cfg : Cfg) (a : Word) : Nat :=
  let r := regionOf cfg a
  (a.toNat - r.base) % r.size

/-- The key under which memory lists the byte an address names: mirrors of one byte have one key. -/
def byteKey (cfg : Cfg) (a : Word) : Nat := (regionOf cfg a).base + offsetOf cfg a

/-! ## Accesses -/

/-- The number of bytes of a width. -/
def Width.bytes : Width → Nat
  | .byte => 1
  | .half => 2
  | .word => 4

/-- An address forced down to a multiple of a width (20_memory.md R78, R80). -/
def alignDown (a : Word) : Width → Word
  | .byte => a
  | .half => a &&& 0xFFFFFFFE#32
  | .word => a &&& 0xFFFFFFFC#32

/-- The cost of an access of a width. -/
def costOf (c : AccessCost) : Width → Nat
  | .byte => c.byte
  | .half => c.half
  | .word => c.word

/-- `cfg.access_cycles(region, n, seq)` (20_memory.md R95, 70_reset_and_hazards.md R631). -/
def accessCycles (r : Region) (n : Width) (sequential : Bool) : Nat :=
  costOf (if sequential then r.sequential else r.first) n

/-- `seq(a, n)` (20_memory.md R95, decision D16): the last access had the same width and ended where this one begins. 42_single_transfer.md
R238 says that the data access of a single transfer is never sequential to its fetch, which R95 makes false of a word access at A + 4
right after the fetch at A. DESIGN CHOICE (log 34): R95 is followed, and such an access is sequential. -/
def isSequential (last : Option (Word × Width)) (a : Word) (n : Width) : Bool :=
  match last with
  | some (b, m) => m == n && a == b + BitVec.ofNat 32 n.bytes
  | none => false

/-- The bookkeeping of one access at an aligned address: its cost, and `bus.last` (20_memory.md R80, R81). -/
def noteAccess (a : Word) (n : Width) (s : State) : State :=
  { s with
    cycles := s.cycles + accessCycles (regionOf s.cfg a) n (isSequential s.busLast a n)
    busLast := some (a, n) }

/-- The little-endian value of the bytes from a key on (20_memory.md R77, R80). -/
def loadBytes (mem : List Host.Cell) (key : Nat) : Width → Word
  | .byte => (memGet mem key).setWidth 32
  | .half => (memGet mem (key + 1) ++ memGet mem key).setWidth 32
  | .word => memGet mem (key + 3) ++ memGet mem (key + 2) ++ memGet mem (key + 1) ++ memGet mem key

/-- Storing the low bytes of a value from a key on, little-endian (20_memory.md R77, R81). -/
def storeBytes (mem : List Host.Cell) (key : Nat) (v : Word) : Width → List Host.Cell
  | .byte => memSet mem key (v.extractLsb' 0 8)
  | .half => memSet (memSet mem key (v.extractLsb' 0 8)) (key + 1) (v.extractLsb' 8 8)
  | .word =>
    memSet (memSet (memSet (memSet mem key (v.extractLsb' 0 8)) (key + 1) (v.extractLsb' 8 8))
      (key + 2) (v.extractLsb' 16 8)) (key + 3) (v.extractLsb' 24 8)

/-- The low bytes of a value, the rest zero. -/
def truncTo (v : Word) : Width → Word
  | .byte => v &&& 0x000000FF#32
  | .half => v &&& 0x0000FFFF#32
  | .word => v

/-- `MemRead(addr, n)` (20_memory.md R80): never faults. -/
def memRead (addr : Word) (n : Width) (s : State) : Word × State :=
  let a := alignDown addr n
  let s1 := noteAccess a n s
  match (regionOf s.cfg a).kind with
  | .unused => (truncTo (Config.openBus s1.draws a n.bytes) n, { s1 with draws := s1.draws + 1 })
  | .window => ioRead (offsetOf s1.cfg a) n s1
  | .bootImage | .cartImage | .byteStore => (loadBytes s1.mem (byteKey s1.cfg a) n, s1)

/-- `MemWrite(addr, n, v)` (20_memory.md R81): never faults. -/
def memWrite (addr : Word) (n : Width) (v : Word) (s : State) : State :=
  let a := alignDown addr n
  let s1 := noteAccess a n s
  match (regionOf s.cfg a).kind with
  | .unused | .bootImage | .cartImage => s1
  | .window => ioWrite (offsetOf s1.cfg a) n v s1
  | .byteStore => { s1 with mem := storeBytes s1.mem (byteKey s1.cfg a) v n }

/-- The keys of the bytes that a write of `n` bytes at an address stores to: none outside the byte stores. -/
def storeKeys (cfg : Cfg) (addr : Word) (n : Width) : List Nat :=
  let a := alignDown addr n
  match (regionOf cfg a).kind with
  | .byteStore => (List.range n.bytes).map (fun k => byteKey cfg a + k)
  | .unused | .bootImage | .cartImage | .window => []

end Sys2Proof.Machine
end

