-- ==== Sys2Proof/Machine/Agents.lean ====
section
/-! DEFINITION. The agents beside the Execution Engine: timers, DMA channels and the host's calls
(spec/60_exceptions.md R540 to R571, R590 to R597; spec/70_reset_and_hazards.md R600). -/

namespace Sys2Proof.Machine

/-! ## Timers -/

/-- `timer_tick(n)` (60_exceptions.md R545, R547); `fuel` bounds the cascade, which goes to higher-numbered timers only. -/
def timerTickFuel : Nat → Fin 4 → State → State
  | 0, _, s => s
  | fuel + 1, n, s =>
    let t := s.dev.timers[n.val]
    if !t.enabled then s
    else
      let counter := t.counter + 1#16
      if counter = 0#16 then
        let d1 := setTimer n { t with counter := t.reload } s.dev
        let d2 := if t.irqEnabled then setRequest (s.cfg.irqBit.timer[n.val]) d1 else d1
        let s1 := { s with dev := d2, outputs := s.outputs ++ [.overflow n] }
        if h : n.val < 3 then
          let next : Fin 4 := ⟨n.val + 1, by omega⟩
          if s1.dev.timers[next.val].cascade then timerTickFuel fuel next s1 else s1
        else s1
      else { s with dev := setTimer n { t with counter := counter } s.dev }

/-- `timer_tick(n)`: at most the four timers tick. -/
def timerTick (n : Fin 4) (s : State) : State := timerTickFuel 4 n s

/-- One timer in one cycle (60_exceptions.md R546). -/
def timerCycle (n : Fin 4) (s : State) : State :=
  let t := s.dev.timers[n.val]
  if t.enabled && !t.cascade then
    let div := t.div - 1#11
    if div = 0#11 then timerTick n { s with dev := setTimer n { t with div := t.period s.cfg } s.dev }
    else { s with dev := setTimer n { t with div := div } s.dev }
  else s

/-- One cycle: timers 0 to 3 in order (60_exceptions.md R546). -/
def timersCycle (s : State) : State := timerCycle 3 (timerCycle 2 (timerCycle 1 (timerCycle 0 s)))

/-- `timers_advance(c)` (60_exceptions.md R546). -/
def timersAdvance : Nat → State → State
  | 0, s => s
  | c + 1, s => timersAdvance c (timersCycle s)

/-! ## DMA -/

/-- `delta(mode, unit)` (60_exceptions.md R565, R569): code 3 behaves as increment. -/
def dmaDelta (mode : BitVec 2) (unit : Width) : Word :=
  match mode.toNat with
  | 1 => 0#32 - BitVec.ofNat 32 unit.bytes
  | 2 => 0#32
  | _ => BitVec.ofNat 32 unit.bytes

/-- The number of units a run of a channel transfers (60_exceptions.md R565, R568): a count field of 0 is the maximum. -/
def dmaUnits (cfg : Cfg) (ch : Fin 4) (c : DmaChannel) : Nat :=
  let bits := cfg.dmaCountBits[ch.val]
  let n := c.count.toNat % 2 ^ bits
  if n = 0 then 2 ^ bits else n

/-- Advancing the two addresses of a channel by the modes its control word holds now (60_exceptions.md R565). -/
def dmaStepAddresses (ch : Fin 4) (unit : Width) (s : State) : State :=
  let c := s.dev.dma[ch.val]
  { s with
    dev := setDma ch { c with src := c.src + dmaDelta c.srcMode unit, dst := c.dst + dmaDelta c.dstMode unit } s.dev }

/-- One unit of a transfer (60_exceptions.md R565). The destination is read after the source access, and the addresses after
both: a transfer that writes its own channel's registers acts on what they then hold (U13, log 18). -/
def dmaUnit (ch : Fin 4) (unit : Width) (s : State) : State :=
  let (v, s1) := memRead s.dev.dma[ch.val].src unit s
  dmaStepAddresses ch unit (memWrite s1.dev.dma[ch.val].dst unit v s1)

/-- The units of a transfer, one after another. -/
def dmaUnitsRun : Nat → Fin 4 → Width → State → State
  | 0, _, _, s => s
  | k + 1, ch, unit, s => dmaUnitsRun k ch unit (dmaUnit ch unit s)

/-- `complete(ch)` (60_exceptions.md R567). -/
def dmaComplete (ch : Fin 4) (s : State) : State :=
  let c := s.dev.dma[ch.val]
  let rearm := c.repeats && c.trigger != 0#2
  let d := setDma ch { c with active := false, ctrl := if rearm then c.ctrl else c.ctrl &&& 0x7FFF#16 } s.dev
  { s with dev := if c.irqEnabled then setRequest (s.cfg.irqBit.dma[ch.val]) d else d }

/-- `dma_run(ch)` (60_exceptions.md R565). -/
def dmaRun (ch : Fin 4) (s : State) : State :=
  let c := s.dev.dma[ch.val]
  dmaComplete ch (dmaUnitsRun (dmaUnits s.cfg ch c) ch c.unit s)

/-- One channel's turn in `dma_advance` (60_exceptions.md R566): `State.cycles` holds the running total. -/
def dmaChannelTurn (ch : Fin 4) (s : State) : State :=
  let c := s.dev.dma[ch.val]
  if c.active && c.enabled then
    let s1 := dmaRun ch s
    { s1 with cycles := s1.cycles + s.cfg.dmaOverheadCycles }
  else s

/-- `dma_advance()` (60_exceptions.md R566): lowest channel first; the count it returns is left in `State.cycles`. -/
def dmaAdvance (s : State) : State :=
  dmaChannelTurn 3 (dmaChannelTurn 2 (dmaChannelTurn 1 (dmaChannelTurn 0 { s with cycles := 0 })))

/-- Activating a channel that is enabled, waits for trigger `t` and is not active (60_exceptions.md R564, R592). -/
def dmaActivate (t : BitVec 2) (ch : Fin 4) (d : Devices) : Devices :=
  let c := d.dma[ch.val]
  if c.enabled && c.trigger == t && !c.active then setDma ch { c with active := true } d else d

/-- `dma_trigger(t)` (60_exceptions.md R564). -/
def dmaTrigger (t : BitVec 2) (d : Devices) : Devices :=
  dmaActivate t 3 (dmaActivate t 2 (dmaActivate t 1 (dmaActivate t 0 d)))

/-! ## The host's signals -/

/-- `signal_vblank_start()` (60_exceptions.md R591). -/
def signalVblankStart (cfg : Cfg) (d : Devices) : Devices :=
  dmaTrigger 1#2 (if d.dispstat.getLsbD 3 then setRequest cfg.irqBit.vblank d else d)

/-- `signal_hblank_start()` (60_exceptions.md R591). -/
def signalHblankStart (cfg : Cfg) (d : Devices) : Devices :=
  dmaTrigger 2#2 (if d.dispstat.getLsbD 4 then setRequest cfg.irqBit.hblank d else d)

/-- `signal_dma_special(ch)` (60_exceptions.md R592). -/
def signalDmaSpecial (ch : Fin 4) (d : Devices) : Devices := dmaActivate 3#2 ch d

/-- `host_set_display(flags, line)` (60_exceptions.md R594). -/
def hostSetDisplay (flags : BitVec 3) (line : Half) (d : Devices) : Devices :=
  { d with dispstat := d.dispstat.extractLsb' 3 13 ++ flags, vcount := line }

/-! ## Loading and reset -/

/-- Whether a key belongs to one of the two images. -/
def imageKey (cfg : Cfg) (k : Nat) : Bool := (regionAt cfg.regions k).kind.isImage

/-- Whether a key belongs to the cartridge image. -/
def cartKey (cfg : Cfg) (k : Nat) : Bool := (regionAt cfg.regions k).kind == .cartImage

/-- Bytes placed under successive keys. -/
def placeBytes : List Byte → Nat → List Host.Cell → List Host.Cell
  | [], _, mem => mem
  | b :: bs, k, mem => placeBytes bs (k + 1) (memSet mem k b)

/-- A length the spec admits for a cartridge image (00_scope.md R8). -/
def cartLenOk (n : Nat) : Bool := n != 0 && n % 4 == 0 && n ≤ Config.cartLenMax

/-- `load_cartridge(image, len)` (60_exceptions.md R596): the image replaces the one before; `pc` goes to the entry point; the rest of
the state is kept. DESIGN CHOICE (log 32): the call has this effect whenever the host makes it, though R596 says that "calling it
between steps is outside the spec". -/
def loadCartridge (image : List Byte) (s : State) : Result :=
  if cartLenOk image.length then
    .next { s with
      mem := placeBytes image (s.cfg.regionOfKind .cartImage).base (s.mem.filter (fun c => !cartKey s.cfg c.1))
      cfg := s.cfg.setCartLen image.length
      pc := s.cfg.entry }
  else .refused .cartridgeLength

/-- `reset()` (70_reset_and_hazards.md R600, R603): the reset state of the same configuration, with the two images and the host's queue
kept. DESIGN CHOICE (log 14): what R600 leaves unspecified takes the values of `State.reset`, every r14 and SPSR too, of which R601
says that reset writes none. -/
def hostReset (s : State) : State :=
  { State.resetWith s.cfg with
    mem := s.mem.filter (fun c => imageKey s.cfg c.1)
    draws := s.draws
    inputs := s.inputs }

end Sys2Proof.Machine
end

