-- ==== Sys2Proof/Machine/Flags.lean ====
section
/-! DEFINITION. Status words, conditions, the adder and every flag computation
(spec/10_state.md R23, R28, R30; spec/40_execution_common.md R161, R170, R171). -/

namespace Sys2Proof.Machine

/-! ## Modes and status words as bits -/

/-- The five-bit number of a mode (10_state.md R23). -/
def modeBits : Mode → BitVec 5
  | .user => 0b10000#5
  | .fiq => 0b10001#5
  | .irq => 0b10010#5
  | .svc => 0b10011#5
  | .abt => 0b10111#5
  | .und => 0b11011#5
  | .sys => 0b11111#5

/-- The mode a number names; no other number is a mode (10_state.md R23, R31). -/
def modeOfBits (b : BitVec 5) : Option Mode :=
  match b.toNat with
  | 16 => some .user
  | 17 => some .fiq
  | 18 => some .irq
  | 19 => some .svc
  | 23 => some .abt
  | 27 => some .und
  | 31 => some .sys
  | _ => none

/-- User is the only unprivileged mode (60_exceptions.md R512). -/
def privileged : Mode → Bool
  | .user => false
  | .fiq | .irq | .svc | .abt | .und | .sys => true

/-- A status word as the 32 bits software sees; bits 27:8 read as zero (10_state.md R28, decision D9). -/
def psrWord (p : Psr) : Word :=
  BitVec.ofBool p.n ++ BitVec.ofBool p.z ++ BitVec.ofBool p.c ++ BitVec.ofBool p.v ++ 0#20
    ++ BitVec.ofBool p.i ++ BitVec.ofBool p.f ++ BitVec.ofBool p.t ++ p.m

/-- The implemented bits of a 32-bit value written to a status word (10_state.md R28). -/
def psrOfWord (w : Word) : Psr :=
  { n := w.getLsbD 31, z := w.getLsbD 30, c := w.getLsbD 29, v := w.getLsbD 28
    i := w.getLsbD 7, f := w.getLsbD 6, t := w.getLsbD 5, m := w.extractLsb' 0 5 }

/-- The current status word in the saved form: all implemented bits (60_exceptions.md R500). -/
def psrOfCpsr (c : Cpsr) : Psr :=
  { n := c.n, z := c.z, c := c.c, v := c.v, i := c.i, f := c.f, t := c.t, m := modeBits c.mode }

/-- A saved status word as the current one: none when its mode field is no mode (10_state.md R31). -/
def cpsrOfPsr (p : Psr) : Option Cpsr :=
  match modeOfBits p.m with
  | some m => some { n := p.n, z := p.z, c := p.c, v := p.v, i := p.i, f := p.f, t := p.t, mode := m }
  | none => none

/-- The current status word as 32 bits. -/
def cpsrWord (c : Cpsr) : Word := psrWord (psrOfCpsr c)

/-- The saved status word of a mode; User and System have none (10_state.md R30). -/
def spsrOf (m : Mode) (f : SpsrFile) : Option Psr :=
  match m with
  | .fiq => some f.fiq
  | .irq => some f.irq
  | .svc => some f.svc
  | .abt => some f.abt
  | .und => some f.und
  | .user | .sys => none

/-- Writing the saved status word of a mode; in a mode that has none nothing is written. -/
def setSpsrOf (m : Mode) (p : Psr) (f : SpsrFile) : SpsrFile :=
  match m with
  | .fiq => { f with fiq := p }
  | .irq => { f with irq := p }
  | .svc => { f with svc := p }
  | .abt => { f with abt := p }
  | .und => { f with und := p }
  | .user | .sys => f

/-! ## Conditions -/

/-- `cond_holds(c)` (40_execution_common.md R161). -/
def condHolds (c : Cond) (p : Cpsr) : Bool :=
  match c with
  | .eq => p.z
  | .ne => !p.z
  | .cs => p.c
  | .cc => !p.c
  | .mi => p.n
  | .pl => !p.n
  | .vs => p.v
  | .vc => !p.v
  | .hi => p.c && !p.z
  | .ls => !p.c || p.z
  | .ge => p.n == p.v
  | .lt => p.n != p.v
  | .gt => !p.z && p.n == p.v
  | .le => p.z || p.n != p.v
  | .al => true
  | .nv => false

/-! ## The adder -/

/-- A result with its carry and overflow. -/
structure AddOut where
  result : Word
  carry : Bool
  overflow : Bool
  deriving DecidableEq, Repr

/-- `AddWithCarry(x, y, cin)` (40_execution_common.md R170): the sum is taken unbounded, then narrowed. -/
def addWithCarry (x y : Word) (cin : Bool) : AddOut :=
  let usum := x.toNat + y.toNat + cin.toNat
  let result := BitVec.ofNat 32 usum
  { result := result
    carry := 2 ^ 32 ≤ usum
    overflow := x.getLsbD 31 == y.getLsbD 31 && result.getLsbD 31 != x.getLsbD 31 }

/-! ## Writing flags -/

/-- `set_NZ(r)` (40_execution_common.md R171). -/
def setNZ (r : Word) (p : Cpsr) : Cpsr :=
  { p with n := r.getLsbD 31, z := r == 0#32 }

/-- The flags of a logical operation: N, Z, and C from the shifter; V unchanged (R171). -/
def setNZC (r : Word) (carry : Bool) (p : Cpsr) : Cpsr :=
  { setNZ r p with c := carry }

/-- The flags of an arithmetic operation: N, Z, C, V (R171). -/
def setNZCV (o : AddOut) (p : Cpsr) : Cpsr :=
  { setNZ o.result p with c := o.carry, v := o.overflow }

/-- The flags of a flag-setting long multiply: N and Z from all 64 bits (49_unlisted_families.md section 3). -/
def setNZ64 (r : BitVec 64) (p : Cpsr) : Cpsr :=
  { p with n := r.getLsbD 63, z := r == 0#64 }

/-! ## The ALU of 32-bit mode -/

/-- What a data-processing operation gives: its result and the new C and V; no V means V is left alone (R171). -/
structure AluOut where
  result : Word
  carry : Bool
  overflow : Option Bool
  deriving DecidableEq, Repr

/-- A logical operation: C comes from the shifter, V is left alone. -/
def logical (r : Word) (sc : Bool) : AluOut := { result := r, carry := sc, overflow := none }

/-- An arithmetic operation: C and V come from the adder. -/
def arithmetic (o : AddOut) : AluOut := { result := o.result, carry := o.carry, overflow := some o.overflow }

/-- The flags a flag-setting data-processing operation leaves (R171, 41_data_processing.md R201). -/
def setAluFlags (o : AluOut) (p : Cpsr) : Cpsr :=
  match o.overflow with
  | none => setNZC o.result o.carry p
  | some v => { setNZC o.result o.carry p with v := v }

/-- One ALU operation: first operand, second operand, carry in, shifter carry-out. -/
abbrev AluOp := Word → Word → Bool → Bool → AluOut

/-- AND (41_data_processing.md R202). -/
def aluAnd : AluOp := fun a b _ sc => logical (a &&& b) sc
/-- EOR (R203). -/
def aluEor : AluOp := fun a b _ sc => logical (a ^^^ b) sc
/-- SUB (R204). -/
def aluSub : AluOp := fun a b _ _ => arithmetic (addWithCarry a (~~~b) true)
/-- RSB (R205). -/
def aluRsb : AluOp := fun a b _ _ => arithmetic (addWithCarry b (~~~a) true)
/-- ADD (R206). -/
def aluAdd : AluOp := fun a b _ _ => arithmetic (addWithCarry a b false)
/-- ADC (R207). -/
def aluAdc : AluOp := fun a b cin _ => arithmetic (addWithCarry a b cin)
/-- SBC (R208). -/
def aluSbc : AluOp := fun a b cin _ => arithmetic (addWithCarry a (~~~b) cin)
/-- RSC (R209). -/
def aluRsc : AluOp := fun a b cin _ => arithmetic (addWithCarry b (~~~a) cin)
/-- TST (R210). -/
def aluTst : AluOp := fun a b _ sc => logical (a &&& b) sc
/-- TEQ (R211). -/
def aluTeq : AluOp := fun a b _ sc => logical (a ^^^ b) sc
/-- CMP (R212). -/
def aluCmp : AluOp := fun a b _ _ => arithmetic (addWithCarry a (~~~b) true)
/-- CMN (R213). -/
def aluCmn : AluOp := fun a b _ _ => arithmetic (addWithCarry a b false)
/-- ORR (R214). -/
def aluOrr : AluOp := fun a b _ sc => logical (a ||| b) sc
/-- MOV (R215): the first operand is not used. -/
def aluMov : AluOp := fun _ b _ sc => logical b sc
/-- BIC (R216). -/
def aluBic : AluOp := fun a b _ sc => logical (a &&& ~~~b) sc
/-- MVN (R217): the first operand is not used. -/
def aluMvn : AluOp := fun _ b _ sc => logical (~~~b) sc

end Sys2Proof.Machine
end

