-- ==== Sys2Proof/Machine/Ops.lean ====
section
/-! DEFINITION. The named operations over registers, status words and control flow that the meanings share: the register view,
`branch_to`, `write_reg`, exception entry and return, the frame of an instruction's execution
(spec/10_state.md R21 to R27, R30; spec/40_execution_common.md R160, R172 to R174; spec/46_swi_undefined.md;
spec/60_exceptions.md R500 to R503). -/

namespace Sys2Proof.Machine

/-! ## The register view -/

/-- The bank of r13 and r14 a mode sees (10_state.md R23): usr, fiq, irq, svc, abt, und. -/
def bankOf : Mode → Nat
  | .user | .sys => 0
  | .fiq => 1
  | .irq => 2
  | .svc => 3
  | .abt => 4
  | .und => 5

/-- `phys(m, i)` (10_state.md R24) as an index into `State.regs`: r0 to r12 at 0 to 12, r8_fiq to r12_fiq at 13 to 17, then r13
and r14 of each bank. Register 15 is the program counter and no general register. -/
def physIndex (m : Mode) (i : Reg) : Option (Fin 30) :=
  if i.toNat < 8 then some (Fin.ofNat 30 i.toNat)
  else if i.toNat < 13 then some (Fin.ofNat 30 (if m = .fiq then i.toNat + 5 else i.toNat))
  else if i.toNat < 15 then some (Fin.ofNat 30 (18 + 2 * bankOf m + (i.toNat - 13)))
  else none

/-- A general register in the view of a mode. Register 15, which no rule reads this way, gives `pc` (log 28). -/
def State.xIn (m : Mode) (i : Reg) (s : State) : Word :=
  match physIndex m i with
  | some k => s.regs[k.val]
  | none => s.pc

/-- Writing a general register in the view of a mode; register 15 is not written this way. -/
def State.setXIn (m : Mode) (i : Reg) (v : Word) (s : State) : State :=
  match physIndex m i with
  | some k => { s with regs := s.regs.set k.val v k.isLt }
  | none => s

/-- `x[i]` (00_scope.md R10, 10_state.md R24). -/
def State.x (i : Reg) (s : State) : Word := s.xIn s.cpsr.mode i

/-- `x[i] <- v` (00_scope.md R10). -/
def State.setX (i : Reg) (v : Word) (s : State) : State := s.setXIn s.cpsr.mode i v

/-- `x_usr[i]` (00_scope.md R10). -/
def State.xUsr (i : Reg) (s : State) : Word := s.xIn .user i

/-- `x_usr[i] <- v`. -/
def State.setXUsr (i : Reg) (v : Word) (s : State) : State := s.setXIn .user i v

/-- An operand read in which register 15 gives the program counter value `pcv` (00_scope.md R10, 10_state.md R27). -/
def State.xOr (pcv : Word) (i : Reg) (s : State) : Word := if i = 15#4 then pcv else s.x i

/-- A three-bit register field names r0 to r7 (47_thumb_alu.md R300). -/
def lo (r : LowReg) : Reg := r.setWidth 4

/-! ## Program counter and status words -/

/-- `branch_to(v)` (40_execution_common.md R172): masked by the instruction set CPSR.T selects at the call. -/
def branchTo (v : Word) (s : State) : State :=
  { s with pc := if s.cpsr.t then v &&& 0xFFFFFFFE#32 else v &&& 0xFFFFFFFC#32 }

/-- `write_reg(d, v)` (40_execution_common.md R174). -/
def writeReg (d : Reg) (v : Word) (s : State) : State :=
  if d = 15#4 then branchTo v s else s.setX d v

/-- Replacing the current status word by a function of itself. -/
def State.mapCpsr (f : Cpsr → Cpsr) (s : State) : State := { s with cpsr := f s.cpsr }

/-- The SPSR of the current mode (10_state.md R30). -/
def State.curSpsr (s : State) : Option Psr := spsrOf s.cpsr.mode s.spsr

/-- `restore_cpsr()` (40_execution_common.md R173). In User and System mode, which have no SPSR, the step is refused (U3, log 9);
an SPSR whose mode field is no mode stops the machine (U4, log 10). -/
def restoreCpsr (s : State) : Result :=
  match s.curSpsr with
  | none => .refused .noSpsr
  | some p =>
    match cpsrOfPsr p with
    | none => .fault .illegalMode
    | some c => .next { s with cpsr := c }

/-- Going on from a next state. -/
def andThen (r : Result) (f : State → Result) : Result :=
  match r with
  | .next s => f s
  | .fault e => .fault e
  | .refused e => .refused e

/-- The word mask of a field mask f s x c, cut to the implemented bits (45_status_transfer.md R281). -/
def psrMask (fields : BitVec 4) : Word :=
  ((if fields.getLsbD 3 then 0xFF000000#32 else 0#32) ||| (if fields.getLsbD 2 then 0x00FF0000#32 else 0#32)
    ||| (if fields.getLsbD 1 then 0x0000FF00#32 else 0#32) ||| (if fields.getLsbD 0 then 0x000000FF#32 else 0#32))
    &&& 0xF00000FF#32

/-- `psr_write(P, fields, v)` (45_status_transfer.md R281, R284). -/
def psrWrite (p : Bool) (fields : BitVec 4) (v : Word) (s : State) : Result :=
  let mask := psrMask fields
  if p then
    match s.curSpsr with
    | none => .refused .noSpsr
    | some old =>
      .next { s with spsr := setSpsrOf s.cpsr.mode (psrOfWord ((psrWord old &&& ~~~mask) ||| (v &&& mask))) s.spsr }
  else
    let m := if s.cpsr.mode = .user then mask &&& 0xF0000000#32 else mask
    match cpsrOfPsr (psrOfWord ((cpsrWord s.cpsr &&& ~~~m) ||| (v &&& m))) with
    | none => .fault .illegalMode
    | some c => .next { s with cpsr := c }

/-! ## Taking an exception -/

/-- `enter_exception(m, vec, ret)` (60_exceptions.md R500), shared by every kind. -/
def enterException (m : Mode) (vec ret : Word) (s : State) : State :=
  let old := psrOfCpsr s.cpsr
  let s1 := s.mapCpsr (fun c => { c with mode := m })
  let s2 := { s1 with spsr := setSpsrOf m old s1.spsr }
  let s3 := s2.setX 14#4 ret
  { s3.mapCpsr (fun c => { c with t := false, i := true }) with pc := vec }

/-- `raise SWI` (60_exceptions.md R501), or nothing under `cfg.swi_policy = no_effect` (46_swi_undefined.md R291). -/
def raiseSwi (ret : Word) (s : State) : Result :=
  match s.cfg.swiPolicy with
  | .trap => .next (enterException .svc s.cfg.vector.swi ret s)
  | .noEffect => .next s

/-- An unrecognized encoding (46_swi_undefined.md R296): `raise Undefined` (60_exceptions.md R502), or nothing under
`cfg.unrecognized_policy = no_effect`. -/
def raiseUndefined (ret : Word) (s : State) : Result :=
  match s.cfg.unrecognizedPolicy with
  | .trap => .next (enterException .und s.cfg.vector.undef ret s)
  | .noEffect => .next s

/-- Whether a step begins with an interrupt entry (40_execution_common.md R160, 60_exceptions.md R503). -/
def irqTaken (s : State) : Bool := !s.cpsr.i && irqLine s.dev

/-- `raise IRQ` (60_exceptions.md R503): the return address is `pc + 4` in both instruction sets (conflict C7). -/
def raiseIrq (s : State) : State := enterException .irq s.cfg.vector.irq (s.pc + 4#32) s

/-! ## The frame of an instruction's execution -/

/-- A 32-bit-mode instruction at `A` = `pc`: `pc` moves on to `A + 4`, and when the condition holds the body runs, which may
redirect `pc` (40_execution_common.md R160, R162). The body is given `A`. -/
def armExec (c : Cond) (body : Word → State → Result) (s : State) : Result :=
  let s1 := { s with pc := s.pc + 4#32 }
  if condHolds c s.cpsr then body s.pc s1 else .next s1

/-- A compressed-mode instruction at `A` = `pc`: unconditional, `pc` moves on to `A + 2` (47_thumb_alu.md R300). -/
def thumbExec (body : Word → State → Result) (s : State) : Result :=
  body s.pc { s with pc := s.pc + 2#32 }

/-- The switch `cfg.unlisted` before the body of an unlisted instruction (49_unlisted_families.md R400). -/
def unlistedBody (body : Word → State → Result) (a : Word) (s : State) : Result :=
  match s.cfg.unlisted with
  | .armv4t => body a s
  | .refuse => .refused .unlistedFamily

/-! ## Loads and stores shared by the transfer families -/

/-- A word load with the rotation of an unaligned address (20_memory.md R83, 42_single_transfer.md R232). -/
def loadWord (addr : Word) (s : State) : Word × State :=
  let (v, s1) := memRead addr .word s
  (v.rotateRight (8 * (addr.extractLsb' 0 2).toNat), s1)

/-- A zero-extended byte load (42_single_transfer.md R235). -/
def loadByte (addr : Word) (s : State) : Word × State := memRead addr .byte s

/-- A halfword load, rotated by 8 at an odd address (49_unlisted_families.md R419). -/
def loadHalf (addr : Word) (s : State) : Word × State :=
  let (v, s1) := memRead addr .half s
  (v.rotateRight (8 * (addr.extractLsb' 0 1).toNat), s1)

/-- A sign-extended byte load (49_unlisted_families.md R420). -/
def loadSignedByte (addr : Word) (s : State) : Word × State :=
  let (v, s1) := memRead addr .byte s
  ((v.extractLsb' 0 8).signExtend 32, s1)

/-- A sign-extended halfword load: a halfword access at `a & ~1`, and at an odd address the sign-extended byte at `a`, which is the
high byte of that halfword (20_memory.md R83, decision D37). 49_unlisted_families.md R421 writes a byte access at `a` for that case; the
value is the same. DEDUCED (log 31): D37 names the table of R83 for halfword loads. -/
def loadSignedHalf (addr : Word) (s : State) : Word × State :=
  let (v, s1) := memRead addr .half s
  (if addr.getLsbD 0 then (v.extractLsb' 8 8).signExtend 32 else (v.extractLsb' 0 16).signExtend 32, s1)

/-- Word reads at `start`, `start + 4`, ..., oldest first (43_block_transfer.md R250, R253). -/
def readWords : Nat → Word → State → List Word × State
  | 0, _, s => ([], s)
  | k + 1, a, s =>
    let (v, s1) := memRead a .word s
    let (vs, s2) := readWords k (a + 4#32) s1
    (v :: vs, s2)

/-- Word writes at `start`, `start + 4`, ... (43_block_transfer.md R250, R252). -/
def writeWords : List Word → Word → State → State
  | [], _, s => s
  | v :: vs, a, s => writeWords vs (a + 4#32) (memWrite a .word v s)

/-- Register writes in the view of a mode, lowest-numbered register first. -/
def setRegs (m : Mode) : List (Reg × Word) → State → State
  | [], s => s
  | (i, v) :: rest, s => setRegs m rest (s.setXIn m i v)

end Sys2Proof.Machine
end

