-- ==== Sys2Proof/Machine/Operands.lean ====
section
/-! DEFINITION. Every operand form: the barrel shifter (spec/40_execution_common.md R164 to R168), the second operand of data
processing (spec/41_data_processing.md R200), the addresses of single and halfword transfers (spec/42_single_transfer.md
R230, spec/49_unlisted_families.md R409), and the register lists and addresses of block transfers
(spec/43_block_transfer.md R250). -/

namespace Sys2Proof.Machine

/-! ## The barrel shifter -/

/-- `rot_imm(imm8, rot, Cin)` (R165). -/
def rotImm (imm8 : BitVec 8) (rot : BitVec 4) (cin : Bool) : Word × Bool :=
  let v := (imm8.setWidth 32 : Word).rotateRight (2 * rot.toNat)
  (v, if rot = 0#4 then cin else v.getLsbD 31)

/-- Every bit equal to the sign bit. -/
def signFill (m : Word) : Word := if m.getLsbD 31 then 0xFFFFFFFF#32 else 0#32

/-- `shift_imm(type, n, m, Cin)` (R166). -/
def shiftImm (ty : ShiftType) (n : BitVec 5) (m : Word) (cin : Bool) : Word × Bool :=
  let k := n.toNat
  match ty with
  | .lsl => if k = 0 then (m, cin) else (m <<< k, m.getLsbD (32 - k))
  | .lsr => if k = 0 then (0#32, m.getLsbD 31) else (m >>> k, m.getLsbD (k - 1))
  | .asr => if k = 0 then (signFill m, m.getLsbD 31) else (m.sshiftRight k, m.getLsbD (k - 1))
  | .ror =>
    if k = 0 then ((if cin then 0x80000000#32 else 0#32) ||| (m >>> 1), m.getLsbD 0)
    else (m.rotateRight k, m.getLsbD (k - 1))

/-- `shift_reg(type, s, m, Cin)` (R167). -/
def shiftReg (ty : ShiftType) (amount : BitVec 8) (m : Word) (cin : Bool) : Word × Bool :=
  let k := amount.toNat
  if k = 0 then (m, cin)
  else
    match ty with
    | .lsl =>
      if k < 32 then (m <<< k, m.getLsbD (32 - k))
      else if k = 32 then (0#32, m.getLsbD 0)
      else (0#32, false)
    | .lsr =>
      if k < 32 then (m >>> k, m.getLsbD (k - 1))
      else if k = 32 then (0#32, m.getLsbD 31)
      else (0#32, false)
    | .asr =>
      if k < 32 then (m.sshiftRight k, m.getLsbD (k - 1))
      else (signFill m, m.getLsbD 31)
    | .ror =>
      let r := k % 32
      if r = 0 then (m, m.getLsbD 31) else (m.rotateRight r, m.getLsbD (r - 1))

/-! ## Data processing -/

/-- The three forms of the second operand (30_encoding.md R122: A1, A2, A3). -/
inductive Operand2 where
  | imm (rot : BitVec 4) (imm8 : BitVec 8)
  | shImm (shamt : BitVec 5) (ty : ShiftType) (rm : Reg)
  | shReg (rs : Reg) (ty : ShiftType) (rm : Reg)
  deriving DecidableEq, Repr

/-- What register 15 reads as beside an operand form (41_data_processing.md R200). -/
def Operand2.pcValue (cfg : Cfg) (a : Word) : Operand2 → Word
  | .imm _ _ | .shImm _ _ _ => a + cfg.armPcAhead
  | .shReg _ _ _ => a + Config.armPcStoreAhead

/-- The second operand and the shifter carry-out (41_data_processing.md R200). Register 15 as the shift amount reads A + 12
(U5, log 12). -/
def operand2 (a : Word) (o : Operand2) (s : State) : Word × Bool :=
  let pcv := o.pcValue s.cfg a
  match o with
  | .imm rot imm8 => rotImm imm8 rot s.cpsr.c
  | .shImm shamt ty rm => shiftImm ty shamt (s.xOr pcv rm) s.cpsr.c
  | .shReg rs ty rm => shiftReg ty ((s.xOr pcv rs).extractLsb' 0 8) (s.xOr pcv rm) s.cpsr.c

/-- The result of an ALU operation on the operands of an instruction at `a` (41_data_processing.md R200). -/
def aluOn (f : AluOp) (rn : Reg) (o : Operand2) (a : Word) (s : State) : AluOut :=
  let b := operand2 a o s
  f (s.xOr (o.pcValue s.cfg a) rn) b.1 s.cpsr.c b.2

/-- `dp_finish` (41_data_processing.md R201). -/
def dpFinish (sf : Bool) (rd : Reg) (out : AluOut) (s : State) : Result :=
  if sf then
    if rd = 15#4 then andThen (restoreCpsr s) (fun s1 => .next (writeReg rd out.result s1))
    else .next (writeReg rd out.result (s.mapCpsr (setAluFlags out)))
  else .next (writeReg rd out.result s)

/-- A data-processing instruction with a destination (41_data_processing.md R200, R201). -/
def dpWrite (f : AluOp) (c : Cond) (sf : Bool) (rn rd : Reg) (o : Operand2) (s : State) : Result :=
  armExec c (fun a s1 => dpFinish sf rd (aluOn f rn o a s1) s1) s

/-- A comparison (41_data_processing.md R218): the flags only. -/
def dpCompare (f : AluOp) (c : Cond) (rn : Reg) (o : Operand2) (s : State) : Result :=
  armExec c (fun a s1 => .next (s1.mapCpsr (setAluFlags (aluOn f rn o a s1)))) s

/-! ## Single, halfword and signed transfers -/

/-- The address of a transfer, whether the base is written back, and the written-back value (42_single_transfer.md R230). -/
structure Address where
  addr : Word
  wb : Bool
  target : Word
  deriving DecidableEq, Repr

/-- `st_address` with the offset already computed (42_single_transfer.md R230, 49_unlisted_families.md R409). -/
def transferAddress (a : Word) (p u w : Bool) (rn : Reg) (off : Word) (s : State) : Address :=
  let base := s.xOr (a + s.cfg.armPcAhead) rn
  let target := if u then base + off else base - off
  { addr := if p then target else base
    wb := (!p || w) && rn != 15#4
    target := target }

/-- The shifted register offset of format A9; its carry-out is discarded (42_single_transfer.md R230). -/
def shiftedOffset (a : Word) (shamt : BitVec 5) (ty : ShiftType) (rm : Reg) (s : State) : Word :=
  (shiftImm ty shamt (s.xOr (a + s.cfg.armPcAhead) rm) s.cpsr.c).1

/-- The base writeback of a transfer. -/
def writeBack (rn : Reg) (d : Address) (s : State) : State := if d.wb then s.setX rn d.target else s

/-- A load: access, then writeback, then the loaded value (42_single_transfer.md R232, R235, R237). -/
def transferLoad (load : Word → State → Word × State) (rn rd : Reg) (d : Address) (s : State) : Result :=
  let (v, s1) := load d.addr s
  .next (writeReg rd v (writeBack rn d s1))

/-- A store: the source is read first, register 15 as A + 12; access, then writeback (42_single_transfer.md R231, R233, R236). -/
def transferStore (n : Width) (a : Word) (rn rd : Reg) (d : Address) (s : State) : Result :=
  let v := s.xOr (a + Config.armPcStoreAhead) rd
  .next (writeBack rn d (memWrite d.addr n v s))

/-! ## Block transfers -/

/-- The register numbers whose bit is set, increasing (43_block_transfer.md R250). -/
def regList (list : BitVec 16) : List Reg :=
  ((List.range 16).filter (fun i => list.getLsbD i)).map (BitVec.ofNat 4)

/-- The low registers whose bit is set, increasing (30_encoding.md R130, T14 and T15). -/
def lowRegList (list : BitVec 8) : List Reg := regList (list.setWidth 16)

/-- The start address and the written-back base of a block transfer (43_block_transfer.md R250). -/
def blockAddress (base : Word) (p u : Bool) (n : Nat) : Word × Word :=
  let size := BitVec.ofNat 32 (4 * n)
  if u then (base + (if p then 4#32 else 0#32), base + size)
  else (base - size + (if p then 0#32 else 4#32), base - size)

end Sys2Proof.Machine
end

