-- ==== Sys2Proof/Machine/BlockTransfer.lean ====
section
/-! DEFINITION. The meanings of LDM and STM (spec/43_block_transfer.md R250 to R257). -/

namespace Sys2Proof.Machine

/-- The values a block store writes, lowest register first (R252, R254): register 15 as A + 12, with `sbit` the User bank, the
base register as its old value when it is the first of the list (or is not written back) and as the final value otherwise. -/
def storeValues (a : Word) (sbit w : Bool) (rn : Reg) (base final : Word) (s : State) : Bool → List Reg → List Word
  | _, [] => []
  | first, i :: rest =>
    (if i = 15#4 then a + Config.armPcStoreAhead
     else if sbit then s.xUsr i
     else if i = rn then (if first || !w then base else final)
     else s.x i) :: storeValues a sbit w rn base final s false rest

/-- The body of STM (R252). -/
def blockStore (p u sbit w : Bool) (rn : Reg) (list : BitVec 16) (a : Word) (s : State) : Result :=
  let regs := regList list
  let base := s.xOr (a + s.cfg.armPcAhead) rn
  let ad := blockAddress base p u regs.length
  let s1 := writeWords (storeValues a sbit w rn base ad.2 s true regs) ad.1 s
  .next (if w && rn != 15#4 then s1.setX rn ad.2 else s1)

/-- The body of LDM (R253): all reads first; writeback unless the base is in the list; the registers below 15 in the view of the
current mode, or of User mode with `sbit` and no register 15 (R254); register 15 last, after the SPSR copy with `sbit`. -/
def blockLoad (p u sbit w : Bool) (rn : Reg) (list : BitVec 16) (a : Word) (s : State) : Result :=
  let regs := regList list
  let base := s.xOr (a + s.cfg.armPcAhead) rn
  let ad := blockAddress base p u regs.length
  let (vs, s1) := readWords regs.length ad.1 s
  let s2 := if w && !list.getLsbD rn.toNat && rn != 15#4 then s1.setX rn ad.2 else s1
  let view := if sbit && !list.getLsbD 15 then Mode.user else s2.cpsr.mode
  let s3 := setRegs view (regs.zip vs) s2
  if list.getLsbD 15 then
    if sbit then andThen (restoreCpsr s3) (fun s4 => .next (branchTo (vs.getLastD 0#32) s4))
    else .next (branchTo (vs.getLastD 0#32) s3)
  else .next s3

/-- LDM (R253). -/
def execLdm (c : Cond) (p u sbit w : Bool) (rn : Reg) (list : BitVec 16) (s : State) : Result :=
  armExec c (blockLoad p u sbit w rn list) s

/-- STM (R252). -/
def execStm (c : Cond) (p u sbit w : Bool) (rn : Reg) (list : BitVec 16) (s : State) : Result :=
  armExec c (blockStore p u sbit w rn list) s

end Sys2Proof.Machine
end

