-- ==== Sys2Proof/Machine/Branch.lean ====
section
/-! DEFINITION. The meanings of the 32-bit-mode branches (spec/44_branch.md R270 to R273). -/

namespace Sys2Proof.Machine

/-- Branch and exchange (R272; 47_thumb_alu.md R332): bit 0 of the value selects the instruction set, then the target is masked
by it. -/
def branchExchange (v : Word) (s : State) : State := branchTo v (s.mapCpsr (fun c => { c with t := v.getLsbD 0 }))

/-- B (R270). -/
def execB (c : Cond) (off : BitVec 26) (s : State) : Result :=
  armExec c (fun a s1 => .next (branchTo (a + s1.cfg.armPcAhead + off.signExtend 32) s1)) s

/-- BL (R271). -/
def execBl (c : Cond) (off : BitVec 26) (s : State) : Result :=
  armExec c (fun a s1 => .next (branchTo (a + s1.cfg.armPcAhead + off.signExtend 32) (s1.setX 14#4 (a + 4#32)))) s

/-- BX (R272). -/
def execBx (c : Cond) (rm : Reg) (s : State) : Result :=
  armExec c (fun a s1 => .next (branchExchange (s1.xOr (a + s1.cfg.armPcAhead) rm) s1)) s

end Sys2Proof.Machine
end

