-- ==== Sys2Proof/Machine/DataProcessing.lean ====
section
/-! DEFINITION. The meanings of the 48 data-processing rows (spec/41_data_processing.md): sixteen operations, three operand forms
each. A comparison ignores Rd (R218), MOV and MVN ignore Rn (R219). -/

namespace Sys2Proof.Machine

/-- AND, immediate operand (R202). -/
def execAndImm (c : Cond) (sf : Bool) (rn rd : Reg) (rot : BitVec 4) (imm8 : BitVec 8) (s : State) : Result :=
  dpWrite aluAnd c sf rn rd (.imm rot imm8) s

/-- AND, register shifted by an immediate (R202). -/
def execAndShImm (c : Cond) (sf : Bool) (rn rd : Reg) (shamt : BitVec 5) (ty : ShiftType) (rm : Reg) (s : State) : Result :=
  dpWrite aluAnd c sf rn rd (.shImm shamt ty rm) s

/-- AND, register shifted by a register (R202). -/
def execAndShReg (c : Cond) (sf : Bool) (rn rd rs : Reg) (ty : ShiftType) (rm : Reg) (s : State) : Result :=
  dpWrite aluAnd c sf rn rd (.shReg rs ty rm) s

/-- EOR, immediate operand (R203). -/
def execEorImm (c : Cond) (sf : Bool) (rn rd : Reg) (rot : BitVec 4) (imm8 : BitVec 8) (s : State) : Result :=
  dpWrite aluEor c sf rn rd (.imm rot imm8) s

/-- EOR, register shifted by an immediate (R203). -/
def execEorShImm (c : Cond) (sf : Bool) (rn rd : Reg) (shamt : BitVec 5) (ty : ShiftType) (rm : Reg) (s : State) : Result :=
  dpWrite aluEor c sf rn rd (.shImm shamt ty rm) s

/-- EOR, register shifted by a register (R203). -/
def execEorShReg (c : Cond) (sf : Bool) (rn rd rs : Reg) (ty : ShiftType) (rm : Reg) (s : State) : Result :=
  dpWrite aluEor c sf rn rd (.shReg rs ty rm) s

/-- SUB, immediate operand (R204). -/
def execSubImm (c : Cond) (sf : Bool) (rn rd : Reg) (rot : BitVec 4) (imm8 : BitVec 8) (s : State) : Result :=
  dpWrite aluSub c sf rn rd (.imm rot imm8) s

/-- SUB, register shifted by an immediate (R204). -/
def execSubShImm (c : Cond) (sf : Bool) (rn rd : Reg) (shamt : BitVec 5) (ty : ShiftType) (rm : Reg) (s : State) : Result :=
  dpWrite aluSub c sf rn rd (.shImm shamt ty rm) s

/-- SUB, register shifted by a register (R204). -/
def execSubShReg (c : Cond) (sf : Bool) (rn rd rs : Reg) (ty : ShiftType) (rm : Reg) (s : State) : Result :=
  dpWrite aluSub c sf rn rd (.shReg rs ty rm) s

/-- RSB, immediate operand (R205). -/
def execRsbImm (c : Cond) (sf : Bool) (rn rd : Reg) (rot : BitVec 4) (imm8 : BitVec 8) (s : State) : Result :=
  dpWrite aluRsb c sf rn rd (.imm rot imm8) s

/-- RSB, register shifted by an immediate (R205). -/
def execRsbShImm (c : Cond) (sf : Bool) (rn rd : Reg) (shamt : BitVec 5) (ty : ShiftType) (rm : Reg) (s : State) : Result :=
  dpWrite aluRsb c sf rn rd (.shImm shamt ty rm) s

/-- RSB, register shifted by a register (R205). -/
def execRsbShReg (c : Cond) (sf : Bool) (rn rd rs : Reg) (ty : ShiftType) (rm : Reg) (s : State) : Result :=
  dpWrite aluRsb c sf rn rd (.shReg rs ty rm) s

/-- ADD, immediate operand (R206). -/
def execAddImm (c : Cond) (sf : Bool) (rn rd : Reg) (rot : BitVec 4) (imm8 : BitVec 8) (s : State) : Result :=
  dpWrite aluAdd c sf rn rd (.imm rot imm8) s

/-- ADD, register shifted by an immediate (R206). -/
def execAddShImm (c : Cond) (sf : Bool) (rn rd : Reg) (shamt : BitVec 5) (ty : ShiftType) (rm : Reg) (s : State) : Result :=
  dpWrite aluAdd c sf rn rd (.shImm shamt ty rm) s

/-- ADD, register shifted by a register (R206). -/
def execAddShReg (c : Cond) (sf : Bool) (rn rd rs : Reg) (ty : ShiftType) (rm : Reg) (s : State) : Result :=
  dpWrite aluAdd c sf rn rd (.shReg rs ty rm) s

/-- ADC, immediate operand (R207). -/
def execAdcImm (c : Cond) (sf : Bool) (rn rd : Reg) (rot : BitVec 4) (imm8 : BitVec 8) (s : State) : Result :=
  dpWrite aluAdc c sf rn rd (.imm rot imm8) s

/-- ADC, register shifted by an immediate (R207). -/
def execAdcShImm (c : Cond) (sf : Bool) (rn rd : Reg) (shamt : BitVec 5) (ty : ShiftType) (rm : Reg) (s : State) : Result :=
  dpWrite aluAdc c sf rn rd (.shImm shamt ty rm) s

/-- ADC, register shifted by a register (R207). -/
def execAdcShReg (c : Cond) (sf : Bool) (rn rd rs : Reg) (ty : ShiftType) (rm : Reg) (s : State) : Result :=
  dpWrite aluAdc c sf rn rd (.shReg rs ty rm) s

/-- SBC, immediate operand (R208). -/
def execSbcImm (c : Cond) (sf : Bool) (rn rd : Reg) (rot : BitVec 4) (imm8 : BitVec 8) (s : State) : Result :=
  dpWrite aluSbc c sf rn rd (.imm rot imm8) s

/-- SBC, register shifted by an immediate (R208). -/
def execSbcShImm (c : Cond) (sf : Bool) (rn rd : Reg) (shamt : BitVec 5) (ty : ShiftType) (rm : Reg) (s : State) : Result :=
  dpWrite aluSbc c sf rn rd (.shImm shamt ty rm) s

/-- SBC, register shifted by a register (R208). -/
def execSbcShReg (c : Cond) (sf : Bool) (rn rd rs : Reg) (ty : ShiftType) (rm : Reg) (s : State) : Result :=
  dpWrite aluSbc c sf rn rd (.shReg rs ty rm) s

/-- RSC, immediate operand (R209). -/
def execRscImm (c : Cond) (sf : Bool) (rn rd : Reg) (rot : BitVec 4) (imm8 : BitVec 8) (s : State) : Result :=
  dpWrite aluRsc c sf rn rd (.imm rot imm8) s

/-- RSC, register shifted by an immediate (R209). -/
def execRscShImm (c : Cond) (sf : Bool) (rn rd : Reg) (shamt : BitVec 5) (ty : ShiftType) (rm : Reg) (s : State) : Result :=
  dpWrite aluRsc c sf rn rd (.shImm shamt ty rm) s

/-- RSC, register shifted by a register (R209). -/
def execRscShReg (c : Cond) (sf : Bool) (rn rd rs : Reg) (ty : ShiftType) (rm : Reg) (s : State) : Result :=
  dpWrite aluRsc c sf rn rd (.shReg rs ty rm) s

/-- TST, immediate operand (R210). -/
def execTstImm (c : Cond) (rn : Reg) (rot : BitVec 4) (imm8 : BitVec 8) (s : State) : Result :=
  dpCompare aluTst c rn (.imm rot imm8) s

/-- TST, register shifted by an immediate (R210). -/
def execTstShImm (c : Cond) (rn : Reg) (shamt : BitVec 5) (ty : ShiftType) (rm : Reg) (s : State) : Result :=
  dpCompare aluTst c rn (.shImm shamt ty rm) s

/-- TST, register shifted by a register (R210). -/
def execTstShReg (c : Cond) (rn rs : Reg) (ty : ShiftType) (rm : Reg) (s : State) : Result :=
  dpCompare aluTst c rn (.shReg rs ty rm) s

/-- TEQ, immediate operand (R211). -/
def execTeqImm (c : Cond) (rn : Reg) (rot : BitVec 4) (imm8 : BitVec 8) (s : State) : Result :=
  dpCompare aluTeq c rn (.imm rot imm8) s

/-- TEQ, register shifted by an immediate (R211). -/
def execTeqShImm (c : Cond) (rn : Reg) (shamt : BitVec 5) (ty : ShiftType) (rm : Reg) (s : State) : Result :=
  dpCompare aluTeq c rn (.shImm shamt ty rm) s

/-- TEQ, register shifted by a register (R211). -/
def execTeqShReg (c : Cond) (rn rs : Reg) (ty : ShiftType) (rm : Reg) (s : State) : Result :=
  dpCompare aluTeq c rn (.shReg rs ty rm) s

/-- CMP, immediate operand (R212). -/
def execCmpImm (c : Cond) (rn : Reg) (rot : BitVec 4) (imm8 : BitVec 8) (s : State) : Result :=
  dpCompare aluCmp c rn (.imm rot imm8) s

/-- CMP, register shifted by an immediate (R212). -/
def execCmpShImm (c : Cond) (rn : Reg) (shamt : BitVec 5) (ty : ShiftType) (rm : Reg) (s : State) : Result :=
  dpCompare aluCmp c rn (.shImm shamt ty rm) s

/-- CMP, register shifted by a register (R212). -/
def execCmpShReg (c : Cond) (rn rs : Reg) (ty : ShiftType) (rm : Reg) (s : State) : Result :=
  dpCompare aluCmp c rn (.shReg rs ty rm) s

/-- CMN, immediate operand (R213). -/
def execCmnImm (c : Cond) (rn : Reg) (rot : BitVec 4) (imm8 : BitVec 8) (s : State) : Result :=
  dpCompare aluCmn c rn (.imm rot imm8) s

/-- CMN, register shifted by an immediate (R213). -/
def execCmnShImm (c : Cond) (rn : Reg) (shamt : BitVec 5) (ty : ShiftType) (rm : Reg) (s : State) : Result :=
  dpCompare aluCmn c rn (.shImm shamt ty rm) s

/-- CMN, register shifted by a register (R213). -/
def execCmnShReg (c : Cond) (rn rs : Reg) (ty : ShiftType) (rm : Reg) (s : State) : Result :=
  dpCompare aluCmn c rn (.shReg rs ty rm) s

/-- ORR, immediate operand (R214). -/
def execOrrImm (c : Cond) (sf : Bool) (rn rd : Reg) (rot : BitVec 4) (imm8 : BitVec 8) (s : State) : Result :=
  dpWrite aluOrr c sf rn rd (.imm rot imm8) s

/-- ORR, register shifted by an immediate (R214). -/
def execOrrShImm (c : Cond) (sf : Bool) (rn rd : Reg) (shamt : BitVec 5) (ty : ShiftType) (rm : Reg) (s : State) : Result :=
  dpWrite aluOrr c sf rn rd (.shImm shamt ty rm) s

/-- ORR, register shifted by a register (R214). -/
def execOrrShReg (c : Cond) (sf : Bool) (rn rd rs : Reg) (ty : ShiftType) (rm : Reg) (s : State) : Result :=
  dpWrite aluOrr c sf rn rd (.shReg rs ty rm) s

/-- MOV, immediate operand (R215). -/
def execMovImm (c : Cond) (sf : Bool) (rd : Reg) (rot : BitVec 4) (imm8 : BitVec 8) (s : State) : Result :=
  dpWrite aluMov c sf 0#4 rd (.imm rot imm8) s

/-- MOV, register shifted by an immediate (R215). -/
def execMovShImm (c : Cond) (sf : Bool) (rd : Reg) (shamt : BitVec 5) (ty : ShiftType) (rm : Reg) (s : State) : Result :=
  dpWrite aluMov c sf 0#4 rd (.shImm shamt ty rm) s

/-- MOV, register shifted by a register (R215). -/
def execMovShReg (c : Cond) (sf : Bool) (rd rs : Reg) (ty : ShiftType) (rm : Reg) (s : State) : Result :=
  dpWrite aluMov c sf 0#4 rd (.shReg rs ty rm) s

/-- BIC, immediate operand (R216). -/
def execBicImm (c : Cond) (sf : Bool) (rn rd : Reg) (rot : BitVec 4) (imm8 : BitVec 8) (s : State) : Result :=
  dpWrite aluBic c sf rn rd (.imm rot imm8) s

/-- BIC, register shifted by an immediate (R216). -/
def execBicShImm (c : Cond) (sf : Bool) (rn rd : Reg) (shamt : BitVec 5) (ty : ShiftType) (rm : Reg) (s : State) : Result :=
  dpWrite aluBic c sf rn rd (.shImm shamt ty rm) s

/-- BIC, register shifted by a register (R216). -/
def execBicShReg (c : Cond) (sf : Bool) (rn rd rs : Reg) (ty : ShiftType) (rm : Reg) (s : State) : Result :=
  dpWrite aluBic c sf rn rd (.shReg rs ty rm) s

/-- MVN, immediate operand (R217). -/
def execMvnImm (c : Cond) (sf : Bool) (rd : Reg) (rot : BitVec 4) (imm8 : BitVec 8) (s : State) : Result :=
  dpWrite aluMvn c sf 0#4 rd (.imm rot imm8) s

/-- MVN, register shifted by an immediate (R217). -/
def execMvnShImm (c : Cond) (sf : Bool) (rd : Reg) (shamt : BitVec 5) (ty : ShiftType) (rm : Reg) (s : State) : Result :=
  dpWrite aluMvn c sf 0#4 rd (.shImm shamt ty rm) s

/-- MVN, register shifted by a register (R217). -/
def execMvnShReg (c : Cond) (sf : Bool) (rd rs : Reg) (ty : ShiftType) (rm : Reg) (s : State) : Result :=
  dpWrite aluMvn c sf 0#4 rd (.shReg rs ty rm) s

end Sys2Proof.Machine
end

