-- ==== Sys2Proof/Machine/SingleTransfer.lean ====
section
/-! DEFINITION. The meanings of the single load and store rows (spec/42_single_transfer.md R230 to R238). P = 0 with W = 1
(LDRT and its like) acts as the post-indexed form (R234). -/

namespace Sys2Proof.Machine

/-- LDR, immediate offset (R232). -/
def execLdrImm (c : Cond) (p u w : Bool) (rn rd : Reg) (off : BitVec 12) (s : State) : Result :=
  armExec c (fun a s1 => transferLoad loadWord rn rd (transferAddress a p u w rn (off.setWidth 32) s1) s1) s

/-- LDR, register offset (R232). -/
def execLdrReg (c : Cond) (p u w : Bool) (rn rd : Reg) (shamt : BitVec 5) (ty : ShiftType) (rm : Reg) (s : State) : Result :=
  armExec c (fun a s1 =>
    transferLoad loadWord rn rd (transferAddress a p u w rn (shiftedOffset a shamt ty rm s1) s1) s1) s

/-- LDRB, immediate offset (R235). -/
def execLdrbImm (c : Cond) (p u w : Bool) (rn rd : Reg) (off : BitVec 12) (s : State) : Result :=
  armExec c (fun a s1 => transferLoad loadByte rn rd (transferAddress a p u w rn (off.setWidth 32) s1) s1) s

/-- LDRB, register offset (R235). -/
def execLdrbReg (c : Cond) (p u w : Bool) (rn rd : Reg) (shamt : BitVec 5) (ty : ShiftType) (rm : Reg) (s : State) : Result :=
  armExec c (fun a s1 =>
    transferLoad loadByte rn rd (transferAddress a p u w rn (shiftedOffset a shamt ty rm s1) s1) s1) s

/-- STR, immediate offset (R233). -/
def execStrImm (c : Cond) (p u w : Bool) (rn rd : Reg) (off : BitVec 12) (s : State) : Result :=
  armExec c (fun a s1 => transferStore .word a rn rd (transferAddress a p u w rn (off.setWidth 32) s1) s1) s

/-- STR, register offset (R233). -/
def execStrReg (c : Cond) (p u w : Bool) (rn rd : Reg) (shamt : BitVec 5) (ty : ShiftType) (rm : Reg) (s : State) : Result :=
  armExec c (fun a s1 =>
    transferStore .word a rn rd (transferAddress a p u w rn (shiftedOffset a shamt ty rm s1) s1) s1) s

/-- STRB, immediate offset (R236). -/
def execStrbImm (c : Cond) (p u w : Bool) (rn rd : Reg) (off : BitVec 12) (s : State) : Result :=
  armExec c (fun a s1 => transferStore .byte a rn rd (transferAddress a p u w rn (off.setWidth 32) s1) s1) s

/-- STRB, register offset (R236). -/
def execStrbReg (c : Cond) (p u w : Bool) (rn rd : Reg) (shamt : BitVec 5) (ty : ShiftType) (rm : Reg) (s : State) : Result :=
  armExec c (fun a s1 =>
    transferStore .byte a rn rd (transferAddress a p u w rn (shiftedOffset a shamt ty rm s1) s1) s1) s

end Sys2Proof.Machine
end

