-- ==== Sys2Proof/Machine/StatusTransfer.lean ====
section
/-! DEFINITION. The meanings of MRS and MSR (spec/45_status_transfer.md R280 to R285). -/

namespace Sys2Proof.Machine

/-- MRS (R280). The SPSR form is refused in User and System mode (U3, log 9). -/
def execMrs (c : Cond) (p : Bool) (rd : Reg) (s : State) : Result :=
  armExec c (fun _ s1 =>
    if p then
      match s1.curSpsr with
      | none => .refused .noSpsr
      | some q => .next (writeReg rd (psrWord q) s1)
    else .next (writeReg rd (cpsrWord s1.cpsr) s1)) s

/-- MSR, register form (R282). -/
def execMsrReg (c : Cond) (p : Bool) (fields : BitVec 4) (rm : Reg) (s : State) : Result :=
  armExec c (fun a s1 => psrWrite p fields (s1.xOr (a + s1.cfg.armPcAhead) rm) s1) s

/-- MSR, immediate form (R283). -/
def execMsrImm (c : Cond) (p : Bool) (fields rot : BitVec 4) (imm8 : BitVec 8) (s : State) : Result :=
  armExec c (fun _ s1 => psrWrite p fields (rotImm imm8 rot s1.cpsr.c).1 s1) s

end Sys2Proof.Machine
end

