-- ==== Sys2Proof/Machine/ThumbAlu.lean ====
section
/-! DEFINITION. The meanings of the compressed-mode arithmetic, logic, moves and BX (spec/47_thumb_alu.md R300 to R337, with MUL of
spec/49_unlisted_families.md R411). -/

namespace Sys2Proof.Machine

/-- A shift: result, N, Z, and C from the shifter (R302). -/
def thumbShift (rd : LowReg) (r : Word × Bool) (s : State) : Result :=
  .next ((s.mapCpsr (setNZC r.1 r.2)).setX (lo rd) r.1)

/-- An arithmetic operation: result, N, Z, C, V (R302). -/
def thumbArith (rd : LowReg) (o : AddOut) (s : State) : Result :=
  .next ((s.mapCpsr (setNZCV o)).setX (lo rd) o.result)

/-- A logical operation or a move: result, N, Z; C and V unchanged (R302). -/
def thumbLogic (rd : LowReg) (r : Word) (s : State) : Result :=
  .next ((s.mapCpsr (setNZ r)).setX (lo rd) r)

/-- A comparison: N, Z, C, V and no register (R302). -/
def thumbCompare (o : AddOut) (s : State) : Result := .next (s.mapCpsr (setNZCV o))

/-- The program counter as compressed-mode instructions read it (R301). -/
def thumbPc (a : Word) (s : State) : Word := a + s.cfg.thumbPcAhead

/-- The program counter as format T12 and the PC-relative load read it (R301): bits 1:0 cleared. -/
def thumbPcAligned (a : Word) (s : State) : Word := thumbPc a s &&& 0xFFFFFFFC#32

/-- LSL Rd, Rs, #offset5 (R303). -/
def execTLslImm (rd rs : LowReg) (off5 : BitVec 5) (s : State) : Result :=
  thumbExec (fun _ s1 => thumbShift rd (shiftImm .lsl off5 (s1.x (lo rs)) s1.cpsr.c) s1) s

/-- LSR Rd, Rs, #offset5 (R304). -/
def execTLsrImm (rd rs : LowReg) (off5 : BitVec 5) (s : State) : Result :=
  thumbExec (fun _ s1 => thumbShift rd (shiftImm .lsr off5 (s1.x (lo rs)) s1.cpsr.c) s1) s

/-- ASR Rd, Rs, #offset5 (R305). -/
def execTAsrImm (rd rs : LowReg) (off5 : BitVec 5) (s : State) : Result :=
  thumbExec (fun _ s1 => thumbShift rd (shiftImm .asr off5 (s1.x (lo rs)) s1.cpsr.c) s1) s

/-- ADD Rd, Rs, Rn (R306). -/
def execTAddReg (rd rs rn : LowReg) (s : State) : Result :=
  thumbExec (fun _ s1 => thumbArith rd (addWithCarry (s1.x (lo rs)) (s1.x (lo rn)) false) s1) s

/-- SUB Rd, Rs, Rn (R307). -/
def execTSubReg (rd rs rn : LowReg) (s : State) : Result :=
  thumbExec (fun _ s1 => thumbArith rd (addWithCarry (s1.x (lo rs)) (~~~(s1.x (lo rn))) true) s1) s

/-- ADD Rd, Rs, #imm3 (R308). -/
def execTAddImm3 (rd rs : LowReg) (imm3 : BitVec 3) (s : State) : Result :=
  thumbExec (fun _ s1 => thumbArith rd (addWithCarry (s1.x (lo rs)) (imm3.setWidth 32) false) s1) s

/-- SUB Rd, Rs, #imm3 (R309). -/
def execTSubImm3 (rd rs : LowReg) (imm3 : BitVec 3) (s : State) : Result :=
  thumbExec (fun _ s1 => thumbArith rd (addWithCarry (s1.x (lo rs)) (~~~(imm3.setWidth 32 : Word)) true) s1) s

/-- MOV Rd, #imm8 (R310). -/
def execTMovImm8 (rd : LowReg) (imm8 : BitVec 8) (s : State) : Result :=
  thumbExec (fun _ s1 => thumbLogic rd (imm8.setWidth 32) s1) s

/-- CMP Rd, #imm8 (R311). -/
def execTCmpImm8 (rd : LowReg) (imm8 : BitVec 8) (s : State) : Result :=
  thumbExec (fun _ s1 => thumbCompare (addWithCarry (s1.x (lo rd)) (~~~(imm8.setWidth 32 : Word)) true) s1) s

/-- ADD Rd, #imm8 (R312). -/
def execTAddImm8 (rd : LowReg) (imm8 : BitVec 8) (s : State) : Result :=
  thumbExec (fun _ s1 => thumbArith rd (addWithCarry (s1.x (lo rd)) (imm8.setWidth 32) false) s1) s

/-- SUB Rd, #imm8 (R313). -/
def execTSubImm8 (rd : LowReg) (imm8 : BitVec 8) (s : State) : Result :=
  thumbExec (fun _ s1 => thumbArith rd (addWithCarry (s1.x (lo rd)) (~~~(imm8.setWidth 32 : Word)) true) s1) s

/-- AND Rd, Rs (R314). -/
def execTAnd (rd rs : LowReg) (s : State) : Result :=
  thumbExec (fun _ s1 => thumbLogic rd (s1.x (lo rd) &&& s1.x (lo rs)) s1) s

/-- EOR Rd, Rs (R315). -/
def execTEor (rd rs : LowReg) (s : State) : Result :=
  thumbExec (fun _ s1 => thumbLogic rd (s1.x (lo rd) ^^^ s1.x (lo rs)) s1) s

/-- LSL Rd, Rs (R316). -/
def execTLsl (rd rs : LowReg) (s : State) : Result :=
  thumbExec (fun _ s1 => thumbShift rd (shiftReg .lsl ((s1.x (lo rs)).extractLsb' 0 8) (s1.x (lo rd)) s1.cpsr.c) s1) s

/-- LSR Rd, Rs (R317). -/
def execTLsr (rd rs : LowReg) (s : State) : Result :=
  thumbExec (fun _ s1 => thumbShift rd (shiftReg .lsr ((s1.x (lo rs)).extractLsb' 0 8) (s1.x (lo rd)) s1.cpsr.c) s1) s

/-- ASR Rd, Rs (R318). -/
def execTAsr (rd rs : LowReg) (s : State) : Result :=
  thumbExec (fun _ s1 => thumbShift rd (shiftReg .asr ((s1.x (lo rs)).extractLsb' 0 8) (s1.x (lo rd)) s1.cpsr.c) s1) s

/-- ADC Rd, Rs (R319). -/
def execTAdc (rd rs : LowReg) (s : State) : Result :=
  thumbExec (fun _ s1 => thumbArith rd (addWithCarry (s1.x (lo rd)) (s1.x (lo rs)) s1.cpsr.c) s1) s

/-- SBC Rd, Rs (R320). -/
def execTSbc (rd rs : LowReg) (s : State) : Result :=
  thumbExec (fun _ s1 => thumbArith rd (addWithCarry (s1.x (lo rd)) (~~~(s1.x (lo rs))) s1.cpsr.c) s1) s

/-- ROR Rd, Rs (R321). -/
def execTRor (rd rs : LowReg) (s : State) : Result :=
  thumbExec (fun _ s1 => thumbShift rd (shiftReg .ror ((s1.x (lo rs)).extractLsb' 0 8) (s1.x (lo rd)) s1.cpsr.c) s1) s

/-- TST Rd, Rs (R322). -/
def execTTst (rd rs : LowReg) (s : State) : Result :=
  thumbExec (fun _ s1 => .next (s1.mapCpsr (setNZ (s1.x (lo rd) &&& s1.x (lo rs))))) s

/-- NEG Rd, Rs (R323). -/
def execTNeg (rd rs : LowReg) (s : State) : Result :=
  thumbExec (fun _ s1 => thumbArith rd (addWithCarry 0#32 (~~~(s1.x (lo rs))) true) s1) s

/-- CMP Rd, Rs (R324). -/
def execTCmp (rd rs : LowReg) (s : State) : Result :=
  thumbExec (fun _ s1 => thumbCompare (addWithCarry (s1.x (lo rd)) (~~~(s1.x (lo rs))) true) s1) s

/-- CMN Rd, Rs (R325). -/
def execTCmn (rd rs : LowReg) (s : State) : Result :=
  thumbExec (fun _ s1 => thumbCompare (addWithCarry (s1.x (lo rd)) (s1.x (lo rs)) false) s1) s

/-- ORR Rd, Rs (R326). -/
def execTOrr (rd rs : LowReg) (s : State) : Result :=
  thumbExec (fun _ s1 => thumbLogic rd (s1.x (lo rd) ||| s1.x (lo rs)) s1) s

/-- MUL Rd, Rs (49 R411): C and V unchanged (log 8). -/
def execTMul (rd rs : LowReg) (s : State) : Result :=
  thumbExec (unlistedBody (fun _ s1 => thumbLogic rd (s1.x (lo rd) * s1.x (lo rs)) s1)) s

/-- BIC Rd, Rs (R327). -/
def execTBic (rd rs : LowReg) (s : State) : Result :=
  thumbExec (fun _ s1 => thumbLogic rd (s1.x (lo rd) &&& ~~~(s1.x (lo rs))) s1) s

/-- MVN Rd, Rs (R328). -/
def execTMvn (rd rs : LowReg) (s : State) : Result :=
  thumbExec (fun _ s1 => thumbLogic rd (~~~(s1.x (lo rs))) s1) s

/-- ADD D, S (R329): no flag changes. -/
def execTAddHi (rd rs : Reg) (s : State) : Result :=
  thumbExec (fun a s1 => .next (writeReg rd (s1.xOr (thumbPc a s1) rd + s1.xOr (thumbPc a s1) rs) s1)) s

/-- CMP D, S (R330). -/
def execTCmpHi (rd rs : Reg) (s : State) : Result :=
  thumbExec (fun a s1 => thumbCompare (addWithCarry (s1.xOr (thumbPc a s1) rd) (~~~(s1.xOr (thumbPc a s1) rs)) true) s1) s

/-- MOV D, S (R331): no flag changes. -/
def execTMovHi (rd rs : Reg) (s : State) : Result :=
  thumbExec (fun a s1 => .next (writeReg rd (s1.xOr (thumbPc a s1) rs) s1)) s

/-- BX S (R332). -/
def execTBx (rs : Reg) (s : State) : Result :=
  thumbExec (fun a s1 => .next (branchExchange (s1.xOr (thumbPc a s1) rs) s1)) s

/-- ADD Rd, PC, #imm (R333). -/
def execTAddPc (rd : LowReg) (off : BitVec 10) (s : State) : Result :=
  thumbExec (fun a s1 => .next (s1.setX (lo rd) (thumbPcAligned a s1 + off.setWidth 32))) s

/-- ADD Rd, SP, #imm (R334). -/
def execTAddSp (rd : LowReg) (off : BitVec 10) (s : State) : Result :=
  thumbExec (fun _ s1 => .next (s1.setX (lo rd) (s1.x 13#4 + off.setWidth 32))) s

/-- ADD SP, #imm (R335). -/
def execTAddSpPos (off : BitVec 9) (s : State) : Result :=
  thumbExec (fun _ s1 => .next (s1.setX 13#4 (s1.x 13#4 + off.setWidth 32))) s

/-- ADD SP, #-imm (R336). -/
def execTAddSpNeg (off : BitVec 9) (s : State) : Result :=
  thumbExec (fun _ s1 => .next (s1.setX 13#4 (s1.x 13#4 - off.setWidth 32))) s

end Sys2Proof.Machine
end

