-- ==== Sys2Proof/Machine/ThumbMem.lean ====
section
/-! DEFINITION. The meanings of the compressed-mode loads, stores, stack operations and branches
(spec/48_thumb_mem_branch.md R350 to R373, with the halfword and signed transfers of spec/49_unlisted_families.md R412 to R417). -/

namespace Sys2Proof.Machine

/-- A load into a low register. -/
def thumbLoad (load : Word → State → Word × State) (rd : LowReg) (addr : Word) (s : State) : Result :=
  let (v, s1) := load addr s
  .next (s1.setX (lo rd) v)

/-- A store of a low register. -/
def thumbStore (n : Width) (rd : LowReg) (addr : Word) (s : State) : Result := .next (memWrite addr n (s.x (lo rd)) s)

/-- The address of a register-offset access (R351 to R354). -/
def thumbRegAddress (rb ro : LowReg) (s : State) : Word := s.x (lo rb) + s.x (lo ro)

/-- The address of an immediate-offset access (R355 to R358). -/
def thumbImmAddress (rb : LowReg) (off : Word) (s : State) : Word := s.x (lo rb) + off

/-- The body of PUSH (R361). -/
def pushBody (r : Bool) (list : BitVec 8) (s : State) : Result :=
  let regs := lowRegList list ++ (if r then [14#4] else [])
  let sp := s.x 13#4 - BitVec.ofNat 32 (4 * regs.length)
  .next ((writeWords (regs.map (fun i => s.x i)) sp s).setX 13#4 sp)

/-- The body of POP (R362): register 15 is the last of the list. -/
def popBody (r : Bool) (list : BitVec 8) (s : State) : Result :=
  let regs := lowRegList list ++ (if r then [15#4] else [])
  let sp := s.x 13#4
  let (vs, s1) := readWords regs.length sp s
  let s2 := s1.setX 13#4 (sp + BitVec.ofNat 32 (4 * regs.length))
  let s3 := setRegs s2.cpsr.mode (regs.zip vs) s2
  .next (if r then branchTo (vs.getLastD 0#32) s3 else s3)

/-- The body of STMIA (R363). -/
def stmiaBody (rb : LowReg) (list : BitVec 8) (a : Word) (s : State) : Result :=
  let regs := lowRegList list
  let base := s.x (lo rb)
  let final := base + BitVec.ofNat 32 (4 * regs.length)
  .next ((writeWords (storeValues a false true (lo rb) base final s true regs) base s).setX (lo rb) final)

/-- The body of LDMIA (R364). -/
def ldmiaBody (rb : LowReg) (list : BitVec 8) (s : State) : Result :=
  let regs := lowRegList list
  let base := s.x (lo rb)
  let (vs, s1) := readWords regs.length base s
  let s2 := if list.getLsbD rb.toNat then s1 else s1.setX (lo rb) (base + BitVec.ofNat 32 (4 * regs.length))
  .next (setRegs s2.cpsr.mode (regs.zip vs) s2)

/-- The conditional branch (R368). -/
def thumbBranchIf (c : Cond) (off : BitVec 9) (s : State) : Result :=
  thumbExec (fun a s1 => .next (if condHolds c s1.cpsr then branchTo (thumbPc a s1 + off.signExtend 32) s1 else s1)) s

/-- LDR Rd, [PC, #imm] (R350). -/
def execTLdrPc (rd : LowReg) (off : BitVec 10) (s : State) : Result :=
  thumbExec (fun a s1 => thumbLoad loadWord rd (thumbPcAligned a s1 + off.setWidth 32) s1) s

/-- STR Rd, [Rb, Ro] (R351). -/
def execTStrReg (rd rb ro : LowReg) (s : State) : Result :=
  thumbExec (fun _ s1 => thumbStore .word rd (thumbRegAddress rb ro s1) s1) s

/-- STRB Rd, [Rb, Ro] (R352). -/
def execTStrbReg (rd rb ro : LowReg) (s : State) : Result :=
  thumbExec (fun _ s1 => thumbStore .byte rd (thumbRegAddress rb ro s1) s1) s

/-- LDR Rd, [Rb, Ro] (R353). -/
def execTLdrReg (rd rb ro : LowReg) (s : State) : Result :=
  thumbExec (fun _ s1 => thumbLoad loadWord rd (thumbRegAddress rb ro s1) s1) s

/-- LDRB Rd, [Rb, Ro] (R354). -/
def execTLdrbReg (rd rb ro : LowReg) (s : State) : Result :=
  thumbExec (fun _ s1 => thumbLoad loadByte rd (thumbRegAddress rb ro s1) s1) s

/-- STRH Rd, [Rb, Ro] (49 R412). -/
def execTStrhReg (rd rb ro : LowReg) (s : State) : Result :=
  thumbExec (unlistedBody (fun _ s1 => thumbStore .half rd (thumbRegAddress rb ro s1) s1)) s

/-- LDSB Rd, [Rb, Ro] (49 R414). -/
def execTLdsbReg (rd rb ro : LowReg) (s : State) : Result :=
  thumbExec (unlistedBody (fun _ s1 => thumbLoad loadSignedByte rd (thumbRegAddress rb ro s1) s1)) s

/-- LDRH Rd, [Rb, Ro] (49 R413). -/
def execTLdrhReg (rd rb ro : LowReg) (s : State) : Result :=
  thumbExec (unlistedBody (fun _ s1 => thumbLoad loadHalf rd (thumbRegAddress rb ro s1) s1)) s

/-- LDSH Rd, [Rb, Ro] (49 R415). -/
def execTLdshReg (rd rb ro : LowReg) (s : State) : Result :=
  thumbExec (unlistedBody (fun _ s1 => thumbLoad loadSignedHalf rd (thumbRegAddress rb ro s1) s1)) s

/-- STR Rd, [Rb, #imm] (R355). -/
def execTStrImm (rd rb : LowReg) (off : BitVec 7) (s : State) : Result :=
  thumbExec (fun _ s1 => thumbStore .word rd (thumbImmAddress rb (off.setWidth 32) s1) s1) s

/-- LDR Rd, [Rb, #imm] (R356). -/
def execTLdrImm (rd rb : LowReg) (off : BitVec 7) (s : State) : Result :=
  thumbExec (fun _ s1 => thumbLoad loadWord rd (thumbImmAddress rb (off.setWidth 32) s1) s1) s

/-- STRB Rd, [Rb, #imm] (R357). -/
def execTStrbImm (rd rb : LowReg) (off : BitVec 5) (s : State) : Result :=
  thumbExec (fun _ s1 => thumbStore .byte rd (thumbImmAddress rb (off.setWidth 32) s1) s1) s

/-- LDRB Rd, [Rb, #imm] (R358). -/
def execTLdrbImm (rd rb : LowReg) (off : BitVec 5) (s : State) : Result :=
  thumbExec (fun _ s1 => thumbLoad loadByte rd (thumbImmAddress rb (off.setWidth 32) s1) s1) s

/-- STRH Rd, [Rb, #imm] (49 R416). -/
def execTStrhImm (rd rb : LowReg) (off : BitVec 6) (s : State) : Result :=
  thumbExec (unlistedBody (fun _ s1 => thumbStore .half rd (thumbImmAddress rb (off.setWidth 32) s1) s1)) s

/-- LDRH Rd, [Rb, #imm] (49 R417). -/
def execTLdrhImm (rd rb : LowReg) (off : BitVec 6) (s : State) : Result :=
  thumbExec (unlistedBody (fun _ s1 => thumbLoad loadHalf rd (thumbImmAddress rb (off.setWidth 32) s1) s1)) s

/-- STR Rd, [SP, #imm] (R359). -/
def execTStrSp (rd : LowReg) (off : BitVec 10) (s : State) : Result :=
  thumbExec (fun _ s1 => thumbStore .word rd (s1.x 13#4 + off.setWidth 32) s1) s

/-- LDR Rd, [SP, #imm] (R360). -/
def execTLdrSp (rd : LowReg) (off : BitVec 10) (s : State) : Result :=
  thumbExec (fun _ s1 => thumbLoad loadWord rd (s1.x 13#4 + off.setWidth 32) s1) s

/-- PUSH (R361). -/
def execTPush (r : Bool) (list : BitVec 8) (s : State) : Result :=
  thumbExec (fun _ s1 => pushBody r list s1) s

/-- POP (R362). -/
def execTPop (r : Bool) (list : BitVec 8) (s : State) : Result :=
  thumbExec (fun _ s1 => popBody r list s1) s

/-- STMIA Rb! (R363). -/
def execTStmia (rb : LowReg) (list : BitVec 8) (s : State) : Result :=
  thumbExec (stmiaBody rb list) s

/-- LDMIA Rb! (R364). -/
def execTLdmia (rb : LowReg) (list : BitVec 8) (s : State) : Result :=
  thumbExec (fun _ s1 => ldmiaBody rb list s1) s

/-- BEQ (R368). -/
def execTBeq (off : BitVec 9) (s : State) : Result :=
  thumbBranchIf .eq off s

/-- BNE (R368). -/
def execTBne (off : BitVec 9) (s : State) : Result :=
  thumbBranchIf .ne off s

/-- BCS (R368). -/
def execTBcs (off : BitVec 9) (s : State) : Result :=
  thumbBranchIf .cs off s

/-- BCC (R368). -/
def execTBcc (off : BitVec 9) (s : State) : Result :=
  thumbBranchIf .cc off s

/-- BMI (R368). -/
def execTBmi (off : BitVec 9) (s : State) : Result :=
  thumbBranchIf .mi off s

/-- BPL (R368). -/
def execTBpl (off : BitVec 9) (s : State) : Result :=
  thumbBranchIf .pl off s

/-- BVS (R368). -/
def execTBvs (off : BitVec 9) (s : State) : Result :=
  thumbBranchIf .vs off s

/-- BVC (R368). -/
def execTBvc (off : BitVec 9) (s : State) : Result :=
  thumbBranchIf .vc off s

/-- BHI (R368). -/
def execTBhi (off : BitVec 9) (s : State) : Result :=
  thumbBranchIf .hi off s

/-- BLS (R368). -/
def execTBls (off : BitVec 9) (s : State) : Result :=
  thumbBranchIf .ls off s

/-- BGE (R368). -/
def execTBge (off : BitVec 9) (s : State) : Result :=
  thumbBranchIf .ge off s

/-- BLT (R368). -/
def execTBlt (off : BitVec 9) (s : State) : Result :=
  thumbBranchIf .lt off s

/-- BGT (R368). -/
def execTBgt (off : BitVec 9) (s : State) : Result :=
  thumbBranchIf .gt off s

/-- BLE (R368). -/
def execTBle (off : BitVec 9) (s : State) : Result :=
  thumbBranchIf .le off s

/-- B (R370). -/
def execTB (off : BitVec 12) (s : State) : Result :=
  thumbExec (fun a s1 => .next (branchTo (thumbPc a s1 + off.signExtend 32) s1)) s

/-- BL, first half (R371): the partial target goes to LR. -/
def execTBlHi (off11 : BitVec 11) (s : State) : Result :=
  thumbExec (fun a s1 => .next (s1.setX 14#4 (thumbPc a s1 + (off11.signExtend 32 <<< 12)))) s

/-- BL, second half (R372). -/
def execTBlLo (off11 : BitVec 11) (s : State) : Result :=
  thumbExec (fun a s1 =>
    .next (branchTo (s1.x 14#4 + (off11.setWidth 32 <<< 1)) (s1.setX 14#4 ((a + 2#32) ||| 1#32)))) s

end Sys2Proof.Machine
end

