-- ==== Sys2Proof/Machine/Traps.lean ====
section
/-! DEFINITION. The meanings of the software interrupts and of the rows that are always unrecognized encodings, in both
instruction sets (spec/46_swi_undefined.md R290 to R298, spec/48_thumb_mem_branch.md R369). -/

namespace Sys2Proof.Machine

/-- SWI (R290): the comment field is not read. -/
def execSwi (c : Cond) (_comment : BitVec 24) (s : State) : Result :=
  armExec c (fun a s1 => raiseSwi (a + 4#32) s1) s

/-- Compressed SWI (48 R369): the value field is not read. -/
def execTSwi (_imm8 : BitVec 8) (s : State) : Result :=
  thumbExec (fun a s1 => raiseSwi (a + 2#32) s1) s

/-- Unrecognized, format A13 (R296). -/
def execUndefArch (c : Cond) (s : State) : Result :=
  armExec c (fun a s1 => raiseUndefined (a + 4#32) s1) s

/-- Unrecognized, format A19 (R296, R297; 30_encoding.md R124), under either value of `cfg.unlisted`, though 00_scope.md R6 counts
coprocessor instructions among the unlisted families. DEDUCED (log 36): the rows of 49_unlisted_families.md R400 are followed. -/
def execUndefCopTransfer (c : Cond) (s : State) : Result :=
  armExec c (fun a s1 => raiseUndefined (a + 4#32) s1) s

/-- Unrecognized, format A20 (R296, R297; 30_encoding.md R124), under either value of `cfg.unlisted`, though 00_scope.md R6 counts
coprocessor instructions among the unlisted families. DEDUCED (log 36): the rows of 49_unlisted_families.md R400 are followed. -/
def execUndefCopOp (c : Cond) (s : State) : Result :=
  armExec c (fun a s1 => raiseUndefined (a + 4#32) s1) s

/-- Unrecognized, bits 6:5 = 1x with L = 0 (R296). -/
def execUndefDoubleword (c : Cond) (s : State) : Result :=
  armExec c (fun a s1 => raiseUndefined (a + 4#32) s1) s

/-- Unrecognized, BX with H1 = 1 (R296). -/
def execTUndefBxH1 (s : State) : Result :=
  thumbExec (fun a s1 => raiseUndefined (a + 2#32) s1) s

/-- Unrecognized, 1011 0001 (R296). -/
def execTUndefB1 (s : State) : Result :=
  thumbExec (fun a s1 => raiseUndefined (a + 2#32) s1) s

/-- Unrecognized, 1011 001x (R296). -/
def execTUndefB2 (s : State) : Result :=
  thumbExec (fun a s1 => raiseUndefined (a + 2#32) s1) s

/-- Unrecognized, 1011 011x (R296). -/
def execTUndefB6 (s : State) : Result :=
  thumbExec (fun a s1 => raiseUndefined (a + 2#32) s1) s

/-- Unrecognized, 1011 10xx (R296). -/
def execTUndefB8 (s : State) : Result :=
  thumbExec (fun a s1 => raiseUndefined (a + 2#32) s1) s

/-- Unrecognized, 1011 111x (R296). -/
def execTUndefBe (s : State) : Result :=
  thumbExec (fun a s1 => raiseUndefined (a + 2#32) s1) s

/-- Unrecognized, conditional branch with condition 1110 (R296). -/
def execTUndefCond14 (s : State) : Result :=
  thumbExec (fun a s1 => raiseUndefined (a + 2#32) s1) s

/-- Unrecognized, bits 15:11 = 11101 (R296). -/
def execTUndefBlxSuffix (s : State) : Result :=
  thumbExec (fun a s1 => raiseUndefined (a + 2#32) s1) s

end Sys2Proof.Machine
end

