-- ==== Sys2Proof/Machine/Unlisted.lean ====
section
/-! DEFINITION. The meanings of the unlisted families of 32-bit mode: multiplies, swaps, halfword and signed transfers
(spec/49_unlisted_families.md R400 to R409, R418 to R421). Register 15 as an operand reads A + 8 and as a destination is written by
`write_reg` (U12, log 11). -/

namespace Sys2Proof.Machine

/-- The operand registers of multiplies and swaps: register 15 reads A + 8 (93_implementation_defined.md U12). -/
def mulOperand (a : Word) (i : Reg) (s : State) : Word := s.xOr (a + s.cfg.armPcAhead) i

/-- The result of MUL and MLA: N and Z when flag-setting, C and V unchanged (R401, log 8). -/
def mulFinish (sf : Bool) (rd : Reg) (r : Word) (s : State) : Result :=
  .next (writeReg rd r (if sf then s.mapCpsr (setNZ r) else s))

/-- The result of a long multiply: RdLo, then RdHi; N and Z from the 64 bits when flag-setting (section 3, log 8). -/
def longMulFinish (sf : Bool) (rdHi rdLo : Reg) (r : BitVec 64) (s : State) : Result :=
  .next (writeReg rdHi (r.extractLsb' 32 32) (writeReg rdLo (r.extractLsb' 0 32) (if sf then s.mapCpsr (setNZ64 r) else s)))

/-- The 64-bit accumulator operand `x[RdHi] ++ x[RdLo]` (R404, R406). -/
def accumulator (a : Word) (rdHi rdLo : Reg) (s : State) : BitVec 64 := mulOperand a rdHi s ++ mulOperand a rdLo s

/-- The 64-bit product of two zero-extended registers (R403). -/
def unsignedProduct (x y : Word) : BitVec 64 := x.setWidth 64 * y.setWidth 64

/-- The 64-bit product of two sign-extended registers (R405). -/
def signedProduct (x y : Word) : BitVec 64 := x.signExtend 64 * y.signExtend 64

/-- The body of SWP and SWPB (R407, R408): both registers read first, load, store, then the result. -/
def swapBody (load : Word → State → Word × State) (n : Width) (rn rd rm : Reg) (a : Word) (s : State) : Result :=
  let addr := mulOperand a rn s
  let src := mulOperand a rm s
  let (v, s1) := load addr s
  .next (writeReg rd v (memWrite addr n src s1))

/-- MUL (R401). -/
def execMul (c : Cond) (sf : Bool) (rd rs rm : Reg) (s : State) : Result :=
  armExec c (unlistedBody (fun a s1 => mulFinish sf rd (mulOperand a rm s1 * mulOperand a rs s1) s1)) s

/-- MLA (R402). -/
def execMla (c : Cond) (sf : Bool) (rd rn rs rm : Reg) (s : State) : Result :=
  armExec c (unlistedBody (fun a s1 =>
    mulFinish sf rd (mulOperand a rm s1 * mulOperand a rs s1 + mulOperand a rn s1) s1)) s

/-- UMULL (R403). -/
def execUmull (c : Cond) (sf : Bool) (rdHi rdLo rs rm : Reg) (s : State) : Result :=
  armExec c (unlistedBody (fun a s1 =>
    longMulFinish sf rdHi rdLo (unsignedProduct (mulOperand a rm s1) (mulOperand a rs s1)) s1)) s

/-- UMLAL (R404). -/
def execUmlal (c : Cond) (sf : Bool) (rdHi rdLo rs rm : Reg) (s : State) : Result :=
  armExec c (unlistedBody (fun a s1 =>
    longMulFinish sf rdHi rdLo (unsignedProduct (mulOperand a rm s1) (mulOperand a rs s1) + accumulator a rdHi rdLo s1) s1)) s

/-- SMULL (R405). -/
def execSmull (c : Cond) (sf : Bool) (rdHi rdLo rs rm : Reg) (s : State) : Result :=
  armExec c (unlistedBody (fun a s1 =>
    longMulFinish sf rdHi rdLo (signedProduct (mulOperand a rm s1) (mulOperand a rs s1)) s1)) s

/-- SMLAL (R406). -/
def execSmlal (c : Cond) (sf : Bool) (rdHi rdLo rs rm : Reg) (s : State) : Result :=
  armExec c (unlistedBody (fun a s1 =>
    longMulFinish sf rdHi rdLo (signedProduct (mulOperand a rm s1) (mulOperand a rs s1) + accumulator a rdHi rdLo s1) s1)) s

/-- SWP (R407). -/
def execSwp (c : Cond) (rn rd rm : Reg) (s : State) : Result :=
  armExec c (unlistedBody (swapBody loadWord .word rn rd rm)) s

/-- SWPB (R408). -/
def execSwpb (c : Cond) (rn rd rm : Reg) (s : State) : Result :=
  armExec c (unlistedBody (swapBody loadByte .byte rn rd rm)) s

/-- LDRH, register offset (R419, R409). -/
def execLdrhReg (c : Cond) (p u w : Bool) (rn rd rm : Reg) (s : State) : Result :=
  armExec c (unlistedBody (fun a s1 =>
    transferLoad loadHalf rn rd (transferAddress a p u w rn (s1.xOr (a + s1.cfg.armPcAhead) rm) s1) s1)) s

/-- LDRH, immediate offset (R419, R409). -/
def execLdrhImm (c : Cond) (p u w : Bool) (rn rd : Reg) (off : BitVec 8) (s : State) : Result :=
  armExec c (unlistedBody (fun a s1 =>
    transferLoad loadHalf rn rd (transferAddress a p u w rn (off.setWidth 32) s1) s1)) s

/-- LDRSB, register offset (R420, R409). -/
def execLdrsbReg (c : Cond) (p u w : Bool) (rn rd rm : Reg) (s : State) : Result :=
  armExec c (unlistedBody (fun a s1 =>
    transferLoad loadSignedByte rn rd (transferAddress a p u w rn (s1.xOr (a + s1.cfg.armPcAhead) rm) s1) s1)) s

/-- LDRSB, immediate offset (R420, R409). -/
def execLdrsbImm (c : Cond) (p u w : Bool) (rn rd : Reg) (off : BitVec 8) (s : State) : Result :=
  armExec c (unlistedBody (fun a s1 =>
    transferLoad loadSignedByte rn rd (transferAddress a p u w rn (off.setWidth 32) s1) s1)) s

/-- LDRSH, register offset (R421, R409). -/
def execLdrshReg (c : Cond) (p u w : Bool) (rn rd rm : Reg) (s : State) : Result :=
  armExec c (unlistedBody (fun a s1 =>
    transferLoad loadSignedHalf rn rd (transferAddress a p u w rn (s1.xOr (a + s1.cfg.armPcAhead) rm) s1) s1)) s

/-- LDRSH, immediate offset (R421, R409). -/
def execLdrshImm (c : Cond) (p u w : Bool) (rn rd : Reg) (off : BitVec 8) (s : State) : Result :=
  armExec c (unlistedBody (fun a s1 =>
    transferLoad loadSignedHalf rn rd (transferAddress a p u w rn (off.setWidth 32) s1) s1)) s

/-- STRH, register offset (R418, R409). -/
def execStrhReg (c : Cond) (p u w : Bool) (rn rd rm : Reg) (s : State) : Result :=
  armExec c (unlistedBody (fun a s1 =>
    transferStore .half a rn rd (transferAddress a p u w rn (s1.xOr (a + s1.cfg.armPcAhead) rm) s1) s1)) s

/-- STRH, immediate offset (R418, R409). -/
def execStrhImm (c : Cond) (p u w : Bool) (rn rd : Reg) (off : BitVec 8) (s : State) : Result :=
  armExec c (unlistedBody (fun a s1 =>
    transferStore .half a rn rd (transferAddress a p u w rn (off.setWidth 32) s1) s1)) s

end Sys2Proof.Machine
end

