-- ==== Sys2Proof/Machine/Dispatch.lean ====
section
/-! DEFINITION. Dispatch: one arm per constructor of `Instr`, each one call of that instruction's meaning. -/

namespace Sys2Proof.Machine

def exec (i : Instr) (s : State) : Host.Outcome State Fault Refusal :=
  match i with
  | .andImm c sf rn rd rot imm8 => Sys2Proof.Machine.execAndImm c sf rn rd rot imm8 s
  | .andShImm c sf rn rd shamt ty rm => Sys2Proof.Machine.execAndShImm c sf rn rd shamt ty rm s
  | .andShReg c sf rn rd rs ty rm => Sys2Proof.Machine.execAndShReg c sf rn rd rs ty rm s
  | .eorImm c sf rn rd rot imm8 => Sys2Proof.Machine.execEorImm c sf rn rd rot imm8 s
  | .eorShImm c sf rn rd shamt ty rm => Sys2Proof.Machine.execEorShImm c sf rn rd shamt ty rm s
  | .eorShReg c sf rn rd rs ty rm => Sys2Proof.Machine.execEorShReg c sf rn rd rs ty rm s
  | .subImm c sf rn rd rot imm8 => Sys2Proof.Machine.execSubImm c sf rn rd rot imm8 s
  | .subShImm c sf rn rd shamt ty rm => Sys2Proof.Machine.execSubShImm c sf rn rd shamt ty rm s
  | .subShReg c sf rn rd rs ty rm => Sys2Proof.Machine.execSubShReg c sf rn rd rs ty rm s
  | .rsbImm c sf rn rd rot imm8 => Sys2Proof.Machine.execRsbImm c sf rn rd rot imm8 s
  | .rsbShImm c sf rn rd shamt ty rm => Sys2Proof.Machine.execRsbShImm c sf rn rd shamt ty rm s
  | .rsbShReg c sf rn rd rs ty rm => Sys2Proof.Machine.execRsbShReg c sf rn rd rs ty rm s
  | .addImm c sf rn rd rot imm8 => Sys2Proof.Machine.execAddImm c sf rn rd rot imm8 s
  | .addShImm c sf rn rd shamt ty rm => Sys2Proof.Machine.execAddShImm c sf rn rd shamt ty rm s
  | .addShReg c sf rn rd rs ty rm => Sys2Proof.Machine.execAddShReg c sf rn rd rs ty rm s
  | .adcImm c sf rn rd rot imm8 => Sys2Proof.Machine.execAdcImm c sf rn rd rot imm8 s
  | .adcShImm c sf rn rd shamt ty rm => Sys2Proof.Machine.execAdcShImm c sf rn rd shamt ty rm s
  | .adcShReg c sf rn rd rs ty rm => Sys2Proof.Machine.execAdcShReg c sf rn rd rs ty rm s
  | .sbcImm c sf rn rd rot imm8 => Sys2Proof.Machine.execSbcImm c sf rn rd rot imm8 s
  | .sbcShImm c sf rn rd shamt ty rm => Sys2Proof.Machine.execSbcShImm c sf rn rd shamt ty rm s
  | .sbcShReg c sf rn rd rs ty rm => Sys2Proof.Machine.execSbcShReg c sf rn rd rs ty rm s
  | .rscImm c sf rn rd rot imm8 => Sys2Proof.Machine.execRscImm c sf rn rd rot imm8 s
  | .rscShImm c sf rn rd shamt ty rm => Sys2Proof.Machine.execRscShImm c sf rn rd shamt ty rm s
  | .rscShReg c sf rn rd rs ty rm => Sys2Proof.Machine.execRscShReg c sf rn rd rs ty rm s
  | .tstImm c rn rot imm8 => Sys2Proof.Machine.execTstImm c rn rot imm8 s
  | .tstShImm c rn shamt ty rm => Sys2Proof.Machine.execTstShImm c rn shamt ty rm s
  | .tstShReg c rn rs ty rm => Sys2Proof.Machine.execTstShReg c rn rs ty rm s
  | .teqImm c rn rot imm8 => Sys2Proof.Machine.execTeqImm c rn rot imm8 s
  | .teqShImm c rn shamt ty rm => Sys2Proof.Machine.execTeqShImm c rn shamt ty rm s
  | .teqShReg c rn rs ty rm => Sys2Proof.Machine.execTeqShReg c rn rs ty rm s
  | .cmpImm c rn rot imm8 => Sys2Proof.Machine.execCmpImm c rn rot imm8 s
  | .cmpShImm c rn shamt ty rm => Sys2Proof.Machine.execCmpShImm c rn shamt ty rm s
  | .cmpShReg c rn rs ty rm => Sys2Proof.Machine.execCmpShReg c rn rs ty rm s
  | .cmnImm c rn rot imm8 => Sys2Proof.Machine.execCmnImm c rn rot imm8 s
  | .cmnShImm c rn shamt ty rm => Sys2Proof.Machine.execCmnShImm c rn shamt ty rm s
  | .cmnShReg c rn rs ty rm => Sys2Proof.Machine.execCmnShReg c rn rs ty rm s
  | .orrImm c sf rn rd rot imm8 => Sys2Proof.Machine.execOrrImm c sf rn rd rot imm8 s
  | .orrShImm c sf rn rd shamt ty rm => Sys2Proof.Machine.execOrrShImm c sf rn rd shamt ty rm s
  | .orrShReg c sf rn rd rs ty rm => Sys2Proof.Machine.execOrrShReg c sf rn rd rs ty rm s
  | .movImm c sf rd rot imm8 => Sys2Proof.Machine.execMovImm c sf rd rot imm8 s
  | .movShImm c sf rd shamt ty rm => Sys2Proof.Machine.execMovShImm c sf rd shamt ty rm s
  | .movShReg c sf rd rs ty rm => Sys2Proof.Machine.execMovShReg c sf rd rs ty rm s
  | .bicImm c sf rn rd rot imm8 => Sys2Proof.Machine.execBicImm c sf rn rd rot imm8 s
  | .bicShImm c sf rn rd shamt ty rm => Sys2Proof.Machine.execBicShImm c sf rn rd shamt ty rm s
  | .bicShReg c sf rn rd rs ty rm => Sys2Proof.Machine.execBicShReg c sf rn rd rs ty rm s
  | .mvnImm c sf rd rot imm8 => Sys2Proof.Machine.execMvnImm c sf rd rot imm8 s
  | .mvnShImm c sf rd shamt ty rm => Sys2Proof.Machine.execMvnShImm c sf rd shamt ty rm s
  | .mvnShReg c sf rd rs ty rm => Sys2Proof.Machine.execMvnShReg c sf rd rs ty rm s
  | .mrs c p rd => Sys2Proof.Machine.execMrs c p rd s
  | .msrReg c p fields rm => Sys2Proof.Machine.execMsrReg c p fields rm s
  | .msrImm c p fields rot imm8 => Sys2Proof.Machine.execMsrImm c p fields rot imm8 s
  | .bx c rm => Sys2Proof.Machine.execBx c rm s
  | .ldrImm c p u w rn rd off => Sys2Proof.Machine.execLdrImm c p u w rn rd off s
  | .ldrReg c p u w rn rd shamt ty rm => Sys2Proof.Machine.execLdrReg c p u w rn rd shamt ty rm s
  | .strImm c p u w rn rd off => Sys2Proof.Machine.execStrImm c p u w rn rd off s
  | .strReg c p u w rn rd shamt ty rm => Sys2Proof.Machine.execStrReg c p u w rn rd shamt ty rm s
  | .ldrbImm c p u w rn rd off => Sys2Proof.Machine.execLdrbImm c p u w rn rd off s
  | .ldrbReg c p u w rn rd shamt ty rm => Sys2Proof.Machine.execLdrbReg c p u w rn rd shamt ty rm s
  | .strbImm c p u w rn rd off => Sys2Proof.Machine.execStrbImm c p u w rn rd off s
  | .strbReg c p u w rn rd shamt ty rm => Sys2Proof.Machine.execStrbReg c p u w rn rd shamt ty rm s
  | .undefArch c => Sys2Proof.Machine.execUndefArch c s
  | .ldm c p u sbit w rn list => Sys2Proof.Machine.execLdm c p u sbit w rn list s
  | .stm c p u sbit w rn list => Sys2Proof.Machine.execStm c p u sbit w rn list s
  | .b c off => Sys2Proof.Machine.execB c off s
  | .bl c off => Sys2Proof.Machine.execBl c off s
  | .undefCopTransfer c => Sys2Proof.Machine.execUndefCopTransfer c s
  | .undefCopOp c => Sys2Proof.Machine.execUndefCopOp c s
  | .swi c comment => Sys2Proof.Machine.execSwi c comment s
  | .mul c sf rd rs rm => Sys2Proof.Machine.execMul c sf rd rs rm s
  | .mla c sf rd rn rs rm => Sys2Proof.Machine.execMla c sf rd rn rs rm s
  | .umull c sf rdHi rdLo rs rm => Sys2Proof.Machine.execUmull c sf rdHi rdLo rs rm s
  | .umlal c sf rdHi rdLo rs rm => Sys2Proof.Machine.execUmlal c sf rdHi rdLo rs rm s
  | .smull c sf rdHi rdLo rs rm => Sys2Proof.Machine.execSmull c sf rdHi rdLo rs rm s
  | .smlal c sf rdHi rdLo rs rm => Sys2Proof.Machine.execSmlal c sf rdHi rdLo rs rm s
  | .swp c rn rd rm => Sys2Proof.Machine.execSwp c rn rd rm s
  | .swpb c rn rd rm => Sys2Proof.Machine.execSwpb c rn rd rm s
  | .strhReg c p u w rn rd rm => Sys2Proof.Machine.execStrhReg c p u w rn rd rm s
  | .strhImm c p u w rn rd off => Sys2Proof.Machine.execStrhImm c p u w rn rd off s
  | .ldrhReg c p u w rn rd rm => Sys2Proof.Machine.execLdrhReg c p u w rn rd rm s
  | .ldrhImm c p u w rn rd off => Sys2Proof.Machine.execLdrhImm c p u w rn rd off s
  | .ldrsbReg c p u w rn rd rm => Sys2Proof.Machine.execLdrsbReg c p u w rn rd rm s
  | .ldrsbImm c p u w rn rd off => Sys2Proof.Machine.execLdrsbImm c p u w rn rd off s
  | .ldrshReg c p u w rn rd rm => Sys2Proof.Machine.execLdrshReg c p u w rn rd rm s
  | .ldrshImm c p u w rn rd off => Sys2Proof.Machine.execLdrshImm c p u w rn rd off s
  | .undefDoubleword c => Sys2Proof.Machine.execUndefDoubleword c s
  | .tLslImm rd rs off5 => Sys2Proof.Machine.execTLslImm rd rs off5 s
  | .tLsrImm rd rs off5 => Sys2Proof.Machine.execTLsrImm rd rs off5 s
  | .tAsrImm rd rs off5 => Sys2Proof.Machine.execTAsrImm rd rs off5 s
  | .tAddReg rd rs rn => Sys2Proof.Machine.execTAddReg rd rs rn s
  | .tSubReg rd rs rn => Sys2Proof.Machine.execTSubReg rd rs rn s
  | .tAddImm3 rd rs imm3 => Sys2Proof.Machine.execTAddImm3 rd rs imm3 s
  | .tSubImm3 rd rs imm3 => Sys2Proof.Machine.execTSubImm3 rd rs imm3 s
  | .tMovImm8 rd imm8 => Sys2Proof.Machine.execTMovImm8 rd imm8 s
  | .tCmpImm8 rd imm8 => Sys2Proof.Machine.execTCmpImm8 rd imm8 s
  | .tAddImm8 rd imm8 => Sys2Proof.Machine.execTAddImm8 rd imm8 s
  | .tSubImm8 rd imm8 => Sys2Proof.Machine.execTSubImm8 rd imm8 s
  | .tAnd rd rs => Sys2Proof.Machine.execTAnd rd rs s
  | .tEor rd rs => Sys2Proof.Machine.execTEor rd rs s
  | .tLsl rd rs => Sys2Proof.Machine.execTLsl rd rs s
  | .tLsr rd rs => Sys2Proof.Machine.execTLsr rd rs s
  | .tAsr rd rs => Sys2Proof.Machine.execTAsr rd rs s
  | .tAdc rd rs => Sys2Proof.Machine.execTAdc rd rs s
  | .tSbc rd rs => Sys2Proof.Machine.execTSbc rd rs s
  | .tRor rd rs => Sys2Proof.Machine.execTRor rd rs s
  | .tTst rd rs => Sys2Proof.Machine.execTTst rd rs s
  | .tNeg rd rs => Sys2Proof.Machine.execTNeg rd rs s
  | .tCmp rd rs => Sys2Proof.Machine.execTCmp rd rs s
  | .tCmn rd rs => Sys2Proof.Machine.execTCmn rd rs s
  | .tOrr rd rs => Sys2Proof.Machine.execTOrr rd rs s
  | .tMul rd rs => Sys2Proof.Machine.execTMul rd rs s
  | .tBic rd rs => Sys2Proof.Machine.execTBic rd rs s
  | .tMvn rd rs => Sys2Proof.Machine.execTMvn rd rs s
  | .tAddHi rd rs => Sys2Proof.Machine.execTAddHi rd rs s
  | .tCmpHi rd rs => Sys2Proof.Machine.execTCmpHi rd rs s
  | .tMovHi rd rs => Sys2Proof.Machine.execTMovHi rd rs s
  | .tBx rs => Sys2Proof.Machine.execTBx rs s
  | .tUndefBxH1 => Sys2Proof.Machine.execTUndefBxH1 s
  | .tLdrPc rd off => Sys2Proof.Machine.execTLdrPc rd off s
  | .tStrReg rd rb ro => Sys2Proof.Machine.execTStrReg rd rb ro s
  | .tStrbReg rd rb ro => Sys2Proof.Machine.execTStrbReg rd rb ro s
  | .tLdrReg rd rb ro => Sys2Proof.Machine.execTLdrReg rd rb ro s
  | .tLdrbReg rd rb ro => Sys2Proof.Machine.execTLdrbReg rd rb ro s
  | .tStrhReg rd rb ro => Sys2Proof.Machine.execTStrhReg rd rb ro s
  | .tLdsbReg rd rb ro => Sys2Proof.Machine.execTLdsbReg rd rb ro s
  | .tLdrhReg rd rb ro => Sys2Proof.Machine.execTLdrhReg rd rb ro s
  | .tLdshReg rd rb ro => Sys2Proof.Machine.execTLdshReg rd rb ro s
  | .tStrImm rd rb off => Sys2Proof.Machine.execTStrImm rd rb off s
  | .tLdrImm rd rb off => Sys2Proof.Machine.execTLdrImm rd rb off s
  | .tStrbImm rd rb off => Sys2Proof.Machine.execTStrbImm rd rb off s
  | .tLdrbImm rd rb off => Sys2Proof.Machine.execTLdrbImm rd rb off s
  | .tStrhImm rd rb off => Sys2Proof.Machine.execTStrhImm rd rb off s
  | .tLdrhImm rd rb off => Sys2Proof.Machine.execTLdrhImm rd rb off s
  | .tStrSp rd off => Sys2Proof.Machine.execTStrSp rd off s
  | .tLdrSp rd off => Sys2Proof.Machine.execTLdrSp rd off s
  | .tAddPc rd off => Sys2Proof.Machine.execTAddPc rd off s
  | .tAddSp rd off => Sys2Proof.Machine.execTAddSp rd off s
  | .tAddSpPos off => Sys2Proof.Machine.execTAddSpPos off s
  | .tAddSpNeg off => Sys2Proof.Machine.execTAddSpNeg off s
  | .tUndefB1 => Sys2Proof.Machine.execTUndefB1 s
  | .tUndefB2 => Sys2Proof.Machine.execTUndefB2 s
  | .tPush r list => Sys2Proof.Machine.execTPush r list s
  | .tUndefB6 => Sys2Proof.Machine.execTUndefB6 s
  | .tUndefB8 => Sys2Proof.Machine.execTUndefB8 s
  | .tPop r list => Sys2Proof.Machine.execTPop r list s
  | .tUndefBe => Sys2Proof.Machine.execTUndefBe s
  | .tStmia rb list => Sys2Proof.Machine.execTStmia rb list s
  | .tLdmia rb list => Sys2Proof.Machine.execTLdmia rb list s
  | .tBeq off => Sys2Proof.Machine.execTBeq off s
  | .tBne off => Sys2Proof.Machine.execTBne off s
  | .tBcs off => Sys2Proof.Machine.execTBcs off s
  | .tBcc off => Sys2Proof.Machine.execTBcc off s
  | .tBmi off => Sys2Proof.Machine.execTBmi off s
  | .tBpl off => Sys2Proof.Machine.execTBpl off s
  | .tBvs off => Sys2Proof.Machine.execTBvs off s
  | .tBvc off => Sys2Proof.Machine.execTBvc off s
  | .tBhi off => Sys2Proof.Machine.execTBhi off s
  | .tBls off => Sys2Proof.Machine.execTBls off s
  | .tBge off => Sys2Proof.Machine.execTBge off s
  | .tBlt off => Sys2Proof.Machine.execTBlt off s
  | .tBgt off => Sys2Proof.Machine.execTBgt off s
  | .tBle off => Sys2Proof.Machine.execTBle off s
  | .tUndefCond14 => Sys2Proof.Machine.execTUndefCond14 s
  | .tSwi imm8 => Sys2Proof.Machine.execTSwi imm8 s
  | .tB off => Sys2Proof.Machine.execTB off s
  | .tUndefBlxSuffix => Sys2Proof.Machine.execTUndefBlxSuffix s
  | .tBlHi off11 => Sys2Proof.Machine.execTBlHi off11 s
  | .tBlLo off11 => Sys2Proof.Machine.execTBlLo off11 s

end Sys2Proof.Machine
end

