-- ==== Sys2Proof/Machine/Timing.lean ====
section
/-! DEFINITION. `cfg.internal_cycles(d, executed)`: the cycles of a step that are not memory accesses
(spec/40_execution_common.md R175, spec/70_reset_and_hazards.md R632; log 22). -/

namespace Sys2Proof.Machine

/-- How many bytes of the multiplier count in R632, less one. A run of leading ones shortens it only where `ones` holds. -/
def multiplierBytes (ones : Bool) (rs : Word) : Fin 4 :=
  if rs.extractLsb' 8 24 == 0#24 || (ones && rs.extractLsb' 8 24 == 0xFFFFFF#24) then 0
  else if rs.extractLsb' 16 16 == 0#16 || (ones && rs.extractLsb' 16 16 == 0xFFFF#16) then 1
  else if rs.extractLsb' 24 8 == 0#8 || (ones && rs.extractLsb' 24 8 == 0xFF#8) then 2
  else 3

/-- `m` of R632. -/
def multiplierCycles (cfg : Cfg) (ones : Bool) (rs : Word) : Nat := cfg.internal.multiplier[(multiplierBytes ones rs).val]

/-- `refill` when `pc` is written, else 0. -/
def refillIf (b : Bool) (s : State) : Nat := if b then s.cfg.internal.refill else 0

/-- Data processing, with a shift amount in a register or not, and writing `pc` or not. -/
def dpCycles (byRegister writesPc : Bool) (s : State) : Nat :=
  s.cfg.internal.dataProcessing + (if byRegister then s.cfg.internal.registerShift else 0) + refillIf writesPc s

/-- A single load, of `pc` or not. -/
def loadCycles (writesPc : Bool) (s : State) : Nat := s.cfg.internal.load + refillIf writesPc s

/-- A block load, with `pc` in the list or not. -/
def loadMultipleCycles (writesPc : Bool) (s : State) : Nat := s.cfg.internal.loadMultiple + refillIf writesPc s

/-- The cost of a software interrupt or an unrecognized encoding by its policy (the one of no effect: log 33). -/
def trapCycles (p : TrapPolicy) (s : State) : Nat :=
  match p with
  | .trap => s.cfg.internal.trap
  | .noEffect => s.cfg.internal.noEffect

/-- The cost of an unrecognized encoding. -/
def unrecognizedCycles (s : State) : Nat := trapCycles s.cfg.unrecognizedPolicy s

/-- The cost of a 32-bit-mode instruction whose condition holds (`n`) or fails (`executed` = false). -/
def ifExecuted (c : Cond) (s : State) (n : Nat) : Nat := if condHolds c s.cpsr then n else s.cfg.internal.skipped

/-- A 32-bit-mode multiply: `m`, plus what its kind adds. -/
def mulCycles (c : Cond) (ones : Bool) (rs : Reg) (extra : InternalCycles → Nat) (s : State) : Nat :=
  ifExecuted c s (multiplierCycles s.cfg ones (s.xOr (s.pc + s.cfg.armPcAhead) rs) + extra s.cfg.internal)

/-- A compressed conditional branch: taken or not. -/
def branchCycles (c : Cond) (s : State) : Nat :=
  if condHolds c s.cpsr then s.cfg.internal.branch else s.cfg.internal.branchNotTaken

/-- The table of R632, on the state before the instruction executes. -/
def internalCycles (i : Instr) (s : State) : Nat :=
  match i with
  | .andImm c _ _ rd _ _ => ifExecuted c s (dpCycles false (rd == 15#4) s)
  | .andShImm c _ _ rd _ _ _ => ifExecuted c s (dpCycles false (rd == 15#4) s)
  | .andShReg c _ _ rd _ _ _ => ifExecuted c s (dpCycles true (rd == 15#4) s)
  | .eorImm c _ _ rd _ _ => ifExecuted c s (dpCycles false (rd == 15#4) s)
  | .eorShImm c _ _ rd _ _ _ => ifExecuted c s (dpCycles false (rd == 15#4) s)
  | .eorShReg c _ _ rd _ _ _ => ifExecuted c s (dpCycles true (rd == 15#4) s)
  | .subImm c _ _ rd _ _ => ifExecuted c s (dpCycles false (rd == 15#4) s)
  | .subShImm c _ _ rd _ _ _ => ifExecuted c s (dpCycles false (rd == 15#4) s)
  | .subShReg c _ _ rd _ _ _ => ifExecuted c s (dpCycles true (rd == 15#4) s)
  | .rsbImm c _ _ rd _ _ => ifExecuted c s (dpCycles false (rd == 15#4) s)
  | .rsbShImm c _ _ rd _ _ _ => ifExecuted c s (dpCycles false (rd == 15#4) s)
  | .rsbShReg c _ _ rd _ _ _ => ifExecuted c s (dpCycles true (rd == 15#4) s)
  | .addImm c _ _ rd _ _ => ifExecuted c s (dpCycles false (rd == 15#4) s)
  | .addShImm c _ _ rd _ _ _ => ifExecuted c s (dpCycles false (rd == 15#4) s)
  | .addShReg c _ _ rd _ _ _ => ifExecuted c s (dpCycles true (rd == 15#4) s)
  | .adcImm c _ _ rd _ _ => ifExecuted c s (dpCycles false (rd == 15#4) s)
  | .adcShImm c _ _ rd _ _ _ => ifExecuted c s (dpCycles false (rd == 15#4) s)
  | .adcShReg c _ _ rd _ _ _ => ifExecuted c s (dpCycles true (rd == 15#4) s)
  | .sbcImm c _ _ rd _ _ => ifExecuted c s (dpCycles false (rd == 15#4) s)
  | .sbcShImm c _ _ rd _ _ _ => ifExecuted c s (dpCycles false (rd == 15#4) s)
  | .sbcShReg c _ _ rd _ _ _ => ifExecuted c s (dpCycles true (rd == 15#4) s)
  | .rscImm c _ _ rd _ _ => ifExecuted c s (dpCycles false (rd == 15#4) s)
  | .rscShImm c _ _ rd _ _ _ => ifExecuted c s (dpCycles false (rd == 15#4) s)
  | .rscShReg c _ _ rd _ _ _ => ifExecuted c s (dpCycles true (rd == 15#4) s)
  | .tstImm c _ _ _ => ifExecuted c s (dpCycles false false s)
  | .tstShImm c _ _ _ _ => ifExecuted c s (dpCycles false false s)
  | .tstShReg c _ _ _ _ => ifExecuted c s (dpCycles true false s)
  | .teqImm c _ _ _ => ifExecuted c s (dpCycles false false s)
  | .teqShImm c _ _ _ _ => ifExecuted c s (dpCycles false false s)
  | .teqShReg c _ _ _ _ => ifExecuted c s (dpCycles true false s)
  | .cmpImm c _ _ _ => ifExecuted c s (dpCycles false false s)
  | .cmpShImm c _ _ _ _ => ifExecuted c s (dpCycles false false s)
  | .cmpShReg c _ _ _ _ => ifExecuted c s (dpCycles true false s)
  | .cmnImm c _ _ _ => ifExecuted c s (dpCycles false false s)
  | .cmnShImm c _ _ _ _ => ifExecuted c s (dpCycles false false s)
  | .cmnShReg c _ _ _ _ => ifExecuted c s (dpCycles true false s)
  | .orrImm c _ _ rd _ _ => ifExecuted c s (dpCycles false (rd == 15#4) s)
  | .orrShImm c _ _ rd _ _ _ => ifExecuted c s (dpCycles false (rd == 15#4) s)
  | .orrShReg c _ _ rd _ _ _ => ifExecuted c s (dpCycles true (rd == 15#4) s)
  | .movImm c _ rd _ _ => ifExecuted c s (dpCycles false (rd == 15#4) s)
  | .movShImm c _ rd _ _ _ => ifExecuted c s (dpCycles false (rd == 15#4) s)
  | .movShReg c _ rd _ _ _ => ifExecuted c s (dpCycles true (rd == 15#4) s)
  | .bicImm c _ _ rd _ _ => ifExecuted c s (dpCycles false (rd == 15#4) s)
  | .bicShImm c _ _ rd _ _ _ => ifExecuted c s (dpCycles false (rd == 15#4) s)
  | .bicShReg c _ _ rd _ _ _ => ifExecuted c s (dpCycles true (rd == 15#4) s)
  | .mvnImm c _ rd _ _ => ifExecuted c s (dpCycles false (rd == 15#4) s)
  | .mvnShImm c _ rd _ _ _ => ifExecuted c s (dpCycles false (rd == 15#4) s)
  | .mvnShReg c _ rd _ _ _ => ifExecuted c s (dpCycles true (rd == 15#4) s)
  | .mrs c _ _ => ifExecuted c s s.cfg.internal.statusTransfer
  | .msrReg c _ _ _ => ifExecuted c s s.cfg.internal.statusTransfer
  | .msrImm c _ _ _ _ => ifExecuted c s s.cfg.internal.statusTransfer
  | .bx c _ => ifExecuted c s s.cfg.internal.branch
  | .ldrImm c _ _ _ _ rd _ => ifExecuted c s (loadCycles (rd == 15#4) s)
  | .ldrReg c _ _ _ _ rd _ _ _ => ifExecuted c s (loadCycles (rd == 15#4) s)
  | .strImm c _ _ _ _ _ _ => ifExecuted c s s.cfg.internal.store
  | .strReg c _ _ _ _ _ _ _ _ => ifExecuted c s s.cfg.internal.store
  | .ldrbImm c _ _ _ _ rd _ => ifExecuted c s (loadCycles (rd == 15#4) s)
  | .ldrbReg c _ _ _ _ rd _ _ _ => ifExecuted c s (loadCycles (rd == 15#4) s)
  | .strbImm c _ _ _ _ _ _ => ifExecuted c s s.cfg.internal.store
  | .strbReg c _ _ _ _ _ _ _ _ => ifExecuted c s s.cfg.internal.store
  | .undefArch c => ifExecuted c s (unrecognizedCycles s)
  | .ldm c _ _ _ _ _ list => ifExecuted c s (loadMultipleCycles (list.getLsbD 15) s)
  | .stm c _ _ _ _ _ _ => ifExecuted c s s.cfg.internal.storeMultiple
  | .b c _ => ifExecuted c s s.cfg.internal.branch
  | .bl c _ => ifExecuted c s s.cfg.internal.branch
  | .undefCopTransfer c => ifExecuted c s (unrecognizedCycles s)
  | .undefCopOp c => ifExecuted c s (unrecognizedCycles s)
  | .swi c _ => ifExecuted c s (trapCycles s.cfg.swiPolicy s)
  | .mul c _ _ rs _ => mulCycles c true rs InternalCycles.mul s
  | .mla c _ _ _ rs _ => mulCycles c true rs InternalCycles.mla s
  | .umull c _ _ _ rs _ => mulCycles c false rs InternalCycles.longMultiply s
  | .umlal c _ _ _ rs _ => mulCycles c false rs InternalCycles.longAccumulate s
  | .smull c _ _ _ rs _ => mulCycles c true rs InternalCycles.longMultiply s
  | .smlal c _ _ _ rs _ => mulCycles c true rs InternalCycles.longAccumulate s
  | .swp c _ _ _ => ifExecuted c s s.cfg.internal.swap
  | .swpb c _ _ _ => ifExecuted c s s.cfg.internal.swap
  | .strhReg c _ _ _ _ _ _ => ifExecuted c s s.cfg.internal.store
  | .strhImm c _ _ _ _ _ _ => ifExecuted c s s.cfg.internal.store
  | .ldrhReg c _ _ _ _ rd _ => ifExecuted c s (loadCycles (rd == 15#4) s)
  | .ldrhImm c _ _ _ _ rd _ => ifExecuted c s (loadCycles (rd == 15#4) s)
  | .ldrsbReg c _ _ _ _ rd _ => ifExecuted c s (loadCycles (rd == 15#4) s)
  | .ldrsbImm c _ _ _ _ rd _ => ifExecuted c s (loadCycles (rd == 15#4) s)
  | .ldrshReg c _ _ _ _ rd _ => ifExecuted c s (loadCycles (rd == 15#4) s)
  | .ldrshImm c _ _ _ _ rd _ => ifExecuted c s (loadCycles (rd == 15#4) s)
  | .undefDoubleword c => ifExecuted c s (unrecognizedCycles s)
  | .tLslImm _ _ _ => dpCycles false false s
  | .tLsrImm _ _ _ => dpCycles false false s
  | .tAsrImm _ _ _ => dpCycles false false s
  | .tAddReg _ _ _ => dpCycles false false s
  | .tSubReg _ _ _ => dpCycles false false s
  | .tAddImm3 _ _ _ => dpCycles false false s
  | .tSubImm3 _ _ _ => dpCycles false false s
  | .tMovImm8 _ _ => dpCycles false false s
  | .tCmpImm8 _ _ => dpCycles false false s
  | .tAddImm8 _ _ => dpCycles false false s
  | .tSubImm8 _ _ => dpCycles false false s
  | .tAnd _ _ => dpCycles false false s
  | .tEor _ _ => dpCycles false false s
  | .tLsl _ _ => dpCycles true false s
  | .tLsr _ _ => dpCycles true false s
  | .tAsr _ _ => dpCycles true false s
  | .tAdc _ _ => dpCycles false false s
  | .tSbc _ _ => dpCycles false false s
  | .tRor _ _ => dpCycles true false s
  | .tTst _ _ => dpCycles false false s
  | .tNeg _ _ => dpCycles false false s
  | .tCmp _ _ => dpCycles false false s
  | .tCmn _ _ => dpCycles false false s
  | .tOrr _ _ => dpCycles false false s
  | .tMul _ rs => multiplierCycles s.cfg true (s.x (lo rs)) + s.cfg.internal.mul
  | .tBic _ _ => dpCycles false false s
  | .tMvn _ _ => dpCycles false false s
  | .tAddHi rd _ => dpCycles false (rd == 15#4) s
  | .tCmpHi _ _ => dpCycles false false s
  | .tMovHi rd _ => dpCycles false (rd == 15#4) s
  | .tBx _ => s.cfg.internal.branch
  | .tUndefBxH1 => unrecognizedCycles s
  | .tLdrPc _ _ => loadCycles false s
  | .tStrReg _ _ _ => s.cfg.internal.store
  | .tStrbReg _ _ _ => s.cfg.internal.store
  | .tLdrReg _ _ _ => loadCycles false s
  | .tLdrbReg _ _ _ => loadCycles false s
  | .tStrhReg _ _ _ => s.cfg.internal.store
  | .tLdsbReg _ _ _ => loadCycles false s
  | .tLdrhReg _ _ _ => loadCycles false s
  | .tLdshReg _ _ _ => loadCycles false s
  | .tStrImm _ _ _ => s.cfg.internal.store
  | .tLdrImm _ _ _ => loadCycles false s
  | .tStrbImm _ _ _ => s.cfg.internal.store
  | .tLdrbImm _ _ _ => loadCycles false s
  | .tStrhImm _ _ _ => s.cfg.internal.store
  | .tLdrhImm _ _ _ => loadCycles false s
  | .tStrSp _ _ => s.cfg.internal.store
  | .tLdrSp _ _ => loadCycles false s
  | .tAddPc _ _ => dpCycles false false s
  | .tAddSp _ _ => dpCycles false false s
  | .tAddSpPos _ => dpCycles false false s
  | .tAddSpNeg _ => dpCycles false false s
  | .tUndefB1 => unrecognizedCycles s
  | .tUndefB2 => unrecognizedCycles s
  | .tPush _ _ => s.cfg.internal.storeMultiple
  | .tUndefB6 => unrecognizedCycles s
  | .tUndefB8 => unrecognizedCycles s
  | .tPop r _ => loadMultipleCycles r s
  | .tUndefBe => unrecognizedCycles s
  | .tStmia _ _ => s.cfg.internal.storeMultiple
  | .tLdmia _ _ => loadMultipleCycles false s
  | .tBeq _ => branchCycles .eq s
  | .tBne _ => branchCycles .ne s
  | .tBcs _ => branchCycles .cs s
  | .tBcc _ => branchCycles .cc s
  | .tBmi _ => branchCycles .mi s
  | .tBpl _ => branchCycles .pl s
  | .tBvs _ => branchCycles .vs s
  | .tBvc _ => branchCycles .vc s
  | .tBhi _ => branchCycles .hi s
  | .tBls _ => branchCycles .ls s
  | .tBge _ => branchCycles .ge s
  | .tBlt _ => branchCycles .lt s
  | .tBgt _ => branchCycles .gt s
  | .tBle _ => branchCycles .le s
  | .tUndefCond14 => unrecognizedCycles s
  | .tSwi _ => trapCycles s.cfg.swiPolicy s
  | .tB _ => s.cfg.internal.branch
  | .tUndefBlxSuffix => unrecognizedCycles s
  | .tBlHi _ => s.cfg.internal.longBranchFirst
  | .tBlLo _ => s.cfg.internal.longBranchSecond

end Sys2Proof.Machine
end

