-- ==== Sys2Proof/Machine/Cpu.lean ====
section
/-! DEFINITION. The step of the Execution Engine, the turn of the reference schedule, the host's calls, and placing an instruction
where the next fetch reads it (spec/40_execution_common.md R160, R175; spec/20_memory.md R82; spec/60_exceptions.md R503, R590). -/

namespace Sys2Proof.Machine

/-- The start of a step: no cycles counted yet, nothing handed to the host yet. -/
def beginStep (s : State) : State := { s with cycles := 0, outputs := [] }

/-- Adding `cfg.internal_cycles` to what a step returns (40_execution_common.md R175). -/
def addCycles (n : Nat) (r : Result) : Result :=
  match r with
  | .next s => .next { s with cycles := s.cycles + n }
  | .fault e => .fault e
  | .refused e => .refused e

/-- Instruction fetch (20_memory.md R82): an ordinary read at `pc`, of a word or a halfword by CPSR.T. -/
def fetch (s : State) : Word × State := memRead s.pc (if s.cpsr.t then .half else .word) s

/-- The instruction a fetched value is, in the instruction set CPSR.T selects (30_encoding.md R120, R125, R129). -/
def decodeFetched (thumb : Bool) (w : Word) : Option Instr :=
  if thumb then decodeThumb (w.extractLsb' 0 16) else decodeArm w

/-- A 32-bit word that matches no row of the opcode table: an unrecognized encoding like any other, conditional too
(30_encoding.md R131, R136; 46_swi_undefined.md R296; log 26). -/
def execUnlistedWord (c : Cond) (s : State) : Result := armExec c (fun a s1 => raiseUndefined (a + 4#32) s1) s

/-- Execution of a decoded instruction with its internal cycles (40_execution_common.md R160). -/
def execCounted (i : Instr) (s : State) : Result := addCycles (internalCycles i s) (exec i s)

/-- The part of `cpu_step` after the interrupt check: fetch, decode, execute. -/
def fetchExec (s : State) : Result :=
  let (w, s1) := fetch s
  match decodeFetched s.cpsr.t w with
  | some i => execCounted i s1
  | none =>
    addCycles (ifExecuted (condOf w) s1 (unrecognizedCycles s1)) (execUnlistedWord (condOf w) s1)

/-- `cpu_step()` (40_execution_common.md R160): an interrupt entry or one instruction. What it returns is `State.cycles`. -/
def cpuStep (s : State) : Result :=
  let s1 := beginStep s
  if irqTaken s1 then .next { raiseIrq s1 with cycles := s.cfg.irqEntryCycles } else fetchExec s1

/-- The rest of a turn of the reference schedule after `c = cpu_step()` (60_exceptions.md R590): `timers_advance(c)`,
`d = dma_advance()`, `timers_advance(d)`. `State.cycles` ends as `c + d`. -/
def finishTurn (s : State) : State :=
  let s1 := dmaAdvance (timersAdvance s.cycles s)
  let s2 := timersAdvance s1.cycles s1
  { s2 with cycles := s.cycles + s1.cycles }

/-- One turn of the reference schedule (60_exceptions.md R590). -/
def turn (s : State) : Result := andThen (cpuStep s) (fun s1 => .next (finishTurn s1))

/-- One call of the host (60_exceptions.md R590 to R596, 70_reset_and_hazards.md R600). -/
def hostCall (h : HostCall) (s : State) : Result :=
  let s1 := beginStep s
  match h with
  | .cpuStep => cpuStep s
  | .timersAdvance c => .next (timersAdvance c s1)
  | .dmaAdvance => .next (dmaAdvance s1)
  | .signalVblankStart => .next { s1 with dev := signalVblankStart s1.cfg s1.dev }
  | .signalHblankStart => .next { s1 with dev := signalHblankStart s1.cfg s1.dev }
  | .signalDmaSpecial ch => .next { s1 with dev := signalDmaSpecial ch s1.dev }
  | .irqRaise k => .next { s1 with dev := setRequest k s1.dev }
  | .hostSetDisplay flags line => .next { s1 with dev := hostSetDisplay flags line s1.dev }
  | .loadCartridge image => loadCartridge image s1
  | .reset => .next (hostReset s)

/-! ## Placing an instruction for the next fetch -/

/-- Whether an address is backed by a store or an image that can hold code. -/
def holdsCode (cfg : Cfg) (a : Word) : Bool := (regionOf cfg a).kind.isBacked

/-- The state in which the next step fetches and runs the instruction whose bits are `w`: no host call is pending, no interrupt is
due, CPSR.T selects the instruction set of `nbits`, and the bytes of `w` stand at the aligned `pc` (which moves to the entry point
only if it lies where nothing can be stored). The rest is unchanged (log 29). -/
def placeCode (nbits w : Nat) (s : State) : State :=
  let thumb : Bool := nbits ≤ 16
  let pc := alignDown (if holdsCode s.cfg s.pc then s.pc else s.cfg.entry) (if thumb then .half else .word)
  { s with
    inputs := []
    pc := pc
    cpsr := { s.cpsr with t := thumb, i := s.cpsr.i || irqLine s.dev }
    mem := placeBytes (bytesOfNat (if thumb then 2 else 4) (w % 2 ^ nbits)) (byteKey s.cfg pc) s.mem }

end Sys2Proof.Machine
end

