-- ==== Sys2Proof/Machine/Step.lean ====
section
/-! DEFINITION. The machine's step: the next pending host call, or one turn of the reference schedule (log 6). -/

namespace Sys2Proof.Machine

/-- One step: the oldest call the host has pending, else one turn of the reference schedule (60_exceptions.md R590). -/
def step (s : State) : Host.Outcome State Fault Refusal :=
  match s.inputs with
  | [] => turn s
  | h :: rest => hostCall h { s with inputs := rest }

/-- The host's way to place an instruction where `step` fetches next. -/
def State.withFetchWord (s : State) (nbits w : Nat) : State := placeCode nbits w s

end Sys2Proof.Machine
end

