-- ==== Sys2Proof/Safety.lean ====
section
/-! DEFINITION. What claims about the machine speak of: the invariant of the state, what each instruction may write (registers,
status bits, memory), and the frames (spec/10_state.md R26, R37; spec/20_memory.md R77, R81; spec/60_exceptions.md R546, R563).
The tables of registers and status bits are written from the rule of each instruction; the addresses stored to are computed by the
functions the meanings use. -/

namespace Sys2Proof.Machine

/-! ## The invariant -/

/-- The program counter is aligned to the instruction set CPSR.T selects (10_state.md R26). -/
abbrev State.pcAligned (s : State) : Prop := s.pc.toNat % (if s.cpsr.t then 2 else 4) = 0

/-- Every timer has between one cycle and a full prescaler period to go (60_exceptions.md R546). -/
abbrev Devices.timersOk (cfg : Cfg) (d : Devices) : Prop :=
  ∀ n : Fin 4, 1 ≤ d.timers[n.val].div.toNat ∧ d.timers[n.val].div.toNat ≤ (d.timers[n.val].period cfg).toNat

/-- A channel that is active is enabled (60_exceptions.md R563, R564, R567). -/
abbrev Devices.dmaOk (d : Devices) : Prop :=
  ∀ ch : Fin 4, d.dma[ch.val].active = true → d.dma[ch.val].enabled = true

/-- The invariant every step keeps: memory in canonical form, the program counter aligned, timers and channels consistent, the
configuration one the spec admits (00_scope.md R8). -/
abbrev State.Inv (s : State) : Prop :=
  memWf s.mem = true ∧ s.pcAligned ∧ s.dev.timersOk s.cfg ∧ s.dev.dmaOk ∧ s.cfg.ok = true

/-! ## Frames -/

/-- The physical register a number names in the current mode. -/
abbrev State.sees (i : Reg) (s : State) : Option (Fin 30) := physIndex s.cpsr.mode i

/-- Every general register, of every bank, is unchanged except those listed. -/
def keepsRegs (ks : List (Option (Fin 30))) (s t : State) : Prop :=
  ∀ k : Fin 30, some k ∉ ks → t.regs[k.val] = s.regs[k.val]

/-- Every byte of memory reads as before except those listed. -/
def keepsBytes (ks : List Nat) (s t : State) : Prop := ∀ k : Nat, k ∉ ks → memGet t.mem k = memGet s.mem k

/-- The special registers, the devices and the configuration are unchanged. -/
def keepsSystem (s t : State) : Prop :=
  t.spsr = s.spsr ∧ t.dev = s.dev ∧ t.cfg = s.cfg ∧ t.inputs = s.inputs

/-- A program counter value masked as `branch_to` masks it for an instruction set (40_execution_common.md R172). -/
def pcMask (thumb : Bool) (v : Word) : Word := if thumb then v &&& 0xFFFFFFFE#32 else v &&& 0xFFFFFFFC#32

/-- Whether an instruction belongs to compressed mode. -/
def Instr.isThumb (i : Instr) : Bool :=
  match encode i with
  | .arm _ => false
  | .thumb _ => true

/-- The base register of a transfer, where the transfer writes it back (42_single_transfer.md R230). -/
def writtenBack (p w : Bool) (rn : Reg) (s : State) : List (Option (Fin 30)) := if !p || w then [s.sees rn] else []

/-- The registers of a list in the view of a mode. -/
def listed (m : Mode) (list : BitVec 16) : List (Option (Fin 30)) := (regList list).map (physIndex m)

/-- The registers PUSH stores (48_thumb_mem_branch.md R361). -/
def pushList (r : Bool) (list : BitVec 8) : List Reg := lowRegList list ++ (if r then [14#4] else [])

/-- `n` word accesses from an address on. -/
def wordsFrom : Nat → Word → List (Word × Width)
  | 0, _ => []
  | n + 1, a => (a, .word) :: wordsFrom n (a + 4#32)

/-- What an entry into a mode writes: its r14, under the policy that enters it (60_exceptions.md R500; 46_swi_undefined.md R291, R296). -/
def trapDests (p : TrapPolicy) (m : Mode) : List (Option (Fin 30)) :=
  match p with
  | .trap => [physIndex m 14#4]
  | .noEffect => []

/-- The general registers an instruction may write: its destinations, the link register of a branch or of a mode it enters, the
base register it updates. -/
def Instr.dests (i : Instr) (s : State) : List (Option (Fin 30)) :=
  match i with
  | .andImm _ _ _ rd _ _ => [s.sees rd]
  | .andShImm _ _ _ rd _ _ _ => [s.sees rd]
  | .andShReg _ _ _ rd _ _ _ => [s.sees rd]
  | .eorImm _ _ _ rd _ _ => [s.sees rd]
  | .eorShImm _ _ _ rd _ _ _ => [s.sees rd]
  | .eorShReg _ _ _ rd _ _ _ => [s.sees rd]
  | .subImm _ _ _ rd _ _ => [s.sees rd]
  | .subShImm _ _ _ rd _ _ _ => [s.sees rd]
  | .subShReg _ _ _ rd _ _ _ => [s.sees rd]
  | .rsbImm _ _ _ rd _ _ => [s.sees rd]
  | .rsbShImm _ _ _ rd _ _ _ => [s.sees rd]
  | .rsbShReg _ _ _ rd _ _ _ => [s.sees rd]
  | .addImm _ _ _ rd _ _ => [s.sees rd]
  | .addShImm _ _ _ rd _ _ _ => [s.sees rd]
  | .addShReg _ _ _ rd _ _ _ => [s.sees rd]
  | .adcImm _ _ _ rd _ _ => [s.sees rd]
  | .adcShImm _ _ _ rd _ _ _ => [s.sees rd]
  | .adcShReg _ _ _ rd _ _ _ => [s.sees rd]
  | .sbcImm _ _ _ rd _ _ => [s.sees rd]
  | .sbcShImm _ _ _ rd _ _ _ => [s.sees rd]
  | .sbcShReg _ _ _ rd _ _ _ => [s.sees rd]
  | .rscImm _ _ _ rd _ _ => [s.sees rd]
  | .rscShImm _ _ _ rd _ _ _ => [s.sees rd]
  | .rscShReg _ _ _ rd _ _ _ => [s.sees rd]
  | .tstImm _ _ _ _ => []
  | .tstShImm _ _ _ _ _ => []
  | .tstShReg _ _ _ _ _ => []
  | .teqImm _ _ _ _ => []
  | .teqShImm _ _ _ _ _ => []
  | .teqShReg _ _ _ _ _ => []
  | .cmpImm _ _ _ _ => []
  | .cmpShImm _ _ _ _ _ => []
  | .cmpShReg _ _ _ _ _ => []
  | .cmnImm _ _ _ _ => []
  | .cmnShImm _ _ _ _ _ => []
  | .cmnShReg _ _ _ _ _ => []
  | .orrImm _ _ _ rd _ _ => [s.sees rd]
  | .orrShImm _ _ _ rd _ _ _ => [s.sees rd]
  | .orrShReg _ _ _ rd _ _ _ => [s.sees rd]
  | .movImm _ _ rd _ _ => [s.sees rd]
  | .movShImm _ _ rd _ _ _ => [s.sees rd]
  | .movShReg _ _ rd _ _ _ => [s.sees rd]
  | .bicImm _ _ _ rd _ _ => [s.sees rd]
  | .bicShImm _ _ _ rd _ _ _ => [s.sees rd]
  | .bicShReg _ _ _ rd _ _ _ => [s.sees rd]
  | .mvnImm _ _ rd _ _ => [s.sees rd]
  | .mvnShImm _ _ rd _ _ _ => [s.sees rd]
  | .mvnShReg _ _ rd _ _ _ => [s.sees rd]
  | .mrs _ _ rd => [s.sees rd]
  | .msrReg _ _ _ _ => []
  | .msrImm _ _ _ _ _ => []
  | .bx _ _ => []
  | .ldrImm _ p _ w rn rd _ => s.sees rd :: writtenBack p w rn s
  | .ldrReg _ p _ w rn rd _ _ _ => s.sees rd :: writtenBack p w rn s
  | .strImm _ p _ w rn _ _ => writtenBack p w rn s
  | .strReg _ p _ w rn _ _ _ _ => writtenBack p w rn s
  | .ldrbImm _ p _ w rn rd _ => s.sees rd :: writtenBack p w rn s
  | .ldrbReg _ p _ w rn rd _ _ _ => s.sees rd :: writtenBack p w rn s
  | .strbImm _ p _ w rn _ _ => writtenBack p w rn s
  | .strbReg _ p _ w rn _ _ _ _ => writtenBack p w rn s
  | .undefArch _ => trapDests s.cfg.unrecognizedPolicy .und
  | .ldm _ _ _ sbit w rn list => (if w then [s.sees rn] else []) ++ listed (if sbit && !list.getLsbD 15 then .user else s.cpsr.mode) list
  | .stm _ _ _ _ w rn _ => if w then [s.sees rn] else []
  | .b _ _ => []
  | .bl _ _ => [s.sees 14#4]
  | .undefCopTransfer _ => trapDests s.cfg.unrecognizedPolicy .und
  | .undefCopOp _ => trapDests s.cfg.unrecognizedPolicy .und
  | .swi _ _ => trapDests s.cfg.swiPolicy .svc
  | .mul _ _ rd _ _ => [s.sees rd]
  | .mla _ _ rd _ _ _ => [s.sees rd]
  | .umull _ _ rdHi rdLo _ _ => [s.sees rdHi, s.sees rdLo]
  | .umlal _ _ rdHi rdLo _ _ => [s.sees rdHi, s.sees rdLo]
  | .smull _ _ rdHi rdLo _ _ => [s.sees rdHi, s.sees rdLo]
  | .smlal _ _ rdHi rdLo _ _ => [s.sees rdHi, s.sees rdLo]
  | .swp _ _ rd _ => [s.sees rd]
  | .swpb _ _ rd _ => [s.sees rd]
  | .strhReg _ p _ w rn _ _ => writtenBack p w rn s
  | .strhImm _ p _ w rn _ _ => writtenBack p w rn s
  | .ldrhReg _ p _ w rn rd _ => s.sees rd :: writtenBack p w rn s
  | .ldrhImm _ p _ w rn rd _ => s.sees rd :: writtenBack p w rn s
  | .ldrsbReg _ p _ w rn rd _ => s.sees rd :: writtenBack p w rn s
  | .ldrsbImm _ p _ w rn rd _ => s.sees rd :: writtenBack p w rn s
  | .ldrshReg _ p _ w rn rd _ => s.sees rd :: writtenBack p w rn s
  | .ldrshImm _ p _ w rn rd _ => s.sees rd :: writtenBack p w rn s
  | .undefDoubleword _ => trapDests s.cfg.unrecognizedPolicy .und
  | .tLslImm rd _ _ => [s.sees (lo rd)]
  | .tLsrImm rd _ _ => [s.sees (lo rd)]
  | .tAsrImm rd _ _ => [s.sees (lo rd)]
  | .tAddReg rd _ _ => [s.sees (lo rd)]
  | .tSubReg rd _ _ => [s.sees (lo rd)]
  | .tAddImm3 rd _ _ => [s.sees (lo rd)]
  | .tSubImm3 rd _ _ => [s.sees (lo rd)]
  | .tMovImm8 rd _ => [s.sees (lo rd)]
  | .tCmpImm8 _ _ => []
  | .tAddImm8 rd _ => [s.sees (lo rd)]
  | .tSubImm8 rd _ => [s.sees (lo rd)]
  | .tAnd rd _ => [s.sees (lo rd)]
  | .tEor rd _ => [s.sees (lo rd)]
  | .tLsl rd _ => [s.sees (lo rd)]
  | .tLsr rd _ => [s.sees (lo rd)]
  | .tAsr rd _ => [s.sees (lo rd)]
  | .tAdc rd _ => [s.sees (lo rd)]
  | .tSbc rd _ => [s.sees (lo rd)]
  | .tRor rd _ => [s.sees (lo rd)]
  | .tTst _ _ => []
  | .tNeg rd _ => [s.sees (lo rd)]
  | .tCmp _ _ => []
  | .tCmn _ _ => []
  | .tOrr rd _ => [s.sees (lo rd)]
  | .tMul rd _ => [s.sees (lo rd)]
  | .tBic rd _ => [s.sees (lo rd)]
  | .tMvn rd _ => [s.sees (lo rd)]
  | .tAddHi rd _ => [s.sees rd]
  | .tCmpHi _ _ => []
  | .tMovHi rd _ => [s.sees rd]
  | .tBx _ => []
  | .tUndefBxH1 => trapDests s.cfg.unrecognizedPolicy .und
  | .tLdrPc rd _ => [s.sees (lo rd)]
  | .tStrReg _ _ _ => []
  | .tStrbReg _ _ _ => []
  | .tLdrReg rd _ _ => [s.sees (lo rd)]
  | .tLdrbReg rd _ _ => [s.sees (lo rd)]
  | .tStrhReg _ _ _ => []
  | .tLdsbReg rd _ _ => [s.sees (lo rd)]
  | .tLdrhReg rd _ _ => [s.sees (lo rd)]
  | .tLdshReg rd _ _ => [s.sees (lo rd)]
  | .tStrImm _ _ _ => []
  | .tLdrImm rd _ _ => [s.sees (lo rd)]
  | .tStrbImm _ _ _ => []
  | .tLdrbImm rd _ _ => [s.sees (lo rd)]
  | .tStrhImm _ _ _ => []
  | .tLdrhImm rd _ _ => [s.sees (lo rd)]
  | .tStrSp _ _ => []
  | .tLdrSp rd _ => [s.sees (lo rd)]
  | .tAddPc rd _ => [s.sees (lo rd)]
  | .tAddSp rd _ => [s.sees (lo rd)]
  | .tAddSpPos _ => [s.sees 13#4]
  | .tAddSpNeg _ => [s.sees 13#4]
  | .tUndefB1 => trapDests s.cfg.unrecognizedPolicy .und
  | .tUndefB2 => trapDests s.cfg.unrecognizedPolicy .und
  | .tPush _ _ => [s.sees 13#4]
  | .tUndefB6 => trapDests s.cfg.unrecognizedPolicy .und
  | .tUndefB8 => trapDests s.cfg.unrecognizedPolicy .und
  | .tPop _ list => s.sees 13#4 :: listed s.cpsr.mode (list.setWidth 16)
  | .tUndefBe => trapDests s.cfg.unrecognizedPolicy .und
  | .tStmia rb _ => [s.sees (lo rb)]
  | .tLdmia rb list => s.sees (lo rb) :: listed s.cpsr.mode (list.setWidth 16)
  | .tBeq _ => []
  | .tBne _ => []
  | .tBcs _ => []
  | .tBcc _ => []
  | .tBmi _ => []
  | .tBpl _ => []
  | .tBvs _ => []
  | .tBvc _ => []
  | .tBhi _ => []
  | .tBls _ => []
  | .tBge _ => []
  | .tBlt _ => []
  | .tBgt _ => []
  | .tBle _ => []
  | .tUndefCond14 => trapDests s.cfg.unrecognizedPolicy .und
  | .tSwi _ => trapDests s.cfg.swiPolicy .svc
  | .tB _ => []
  | .tUndefBlxSuffix => trapDests s.cfg.unrecognizedPolicy .und
  | .tBlHi _ => [s.sees 14#4]
  | .tBlLo _ => [s.sees 14#4]

/-- The addresses and widths an instruction stores to, in order; none for an instruction that stores nothing. -/
def Instr.stores (i : Instr) (s : State) : List (Word × Width) :=
  match i with
  | .andImm _ _ _ _ _ _ => []
  | .andShImm _ _ _ _ _ _ _ => []
  | .andShReg _ _ _ _ _ _ _ => []
  | .eorImm _ _ _ _ _ _ => []
  | .eorShImm _ _ _ _ _ _ _ => []
  | .eorShReg _ _ _ _ _ _ _ => []
  | .subImm _ _ _ _ _ _ => []
  | .subShImm _ _ _ _ _ _ _ => []
  | .subShReg _ _ _ _ _ _ _ => []
  | .rsbImm _ _ _ _ _ _ => []
  | .rsbShImm _ _ _ _ _ _ _ => []
  | .rsbShReg _ _ _ _ _ _ _ => []
  | .addImm _ _ _ _ _ _ => []
  | .addShImm _ _ _ _ _ _ _ => []
  | .addShReg _ _ _ _ _ _ _ => []
  | .adcImm _ _ _ _ _ _ => []
  | .adcShImm _ _ _ _ _ _ _ => []
  | .adcShReg _ _ _ _ _ _ _ => []
  | .sbcImm _ _ _ _ _ _ => []
  | .sbcShImm _ _ _ _ _ _ _ => []
  | .sbcShReg _ _ _ _ _ _ _ => []
  | .rscImm _ _ _ _ _ _ => []
  | .rscShImm _ _ _ _ _ _ _ => []
  | .rscShReg _ _ _ _ _ _ _ => []
  | .tstImm _ _ _ _ => []
  | .tstShImm _ _ _ _ _ => []
  | .tstShReg _ _ _ _ _ => []
  | .teqImm _ _ _ _ => []
  | .teqShImm _ _ _ _ _ => []
  | .teqShReg _ _ _ _ _ => []
  | .cmpImm _ _ _ _ => []
  | .cmpShImm _ _ _ _ _ => []
  | .cmpShReg _ _ _ _ _ => []
  | .cmnImm _ _ _ _ => []
  | .cmnShImm _ _ _ _ _ => []
  | .cmnShReg _ _ _ _ _ => []
  | .orrImm _ _ _ _ _ _ => []
  | .orrShImm _ _ _ _ _ _ _ => []
  | .orrShReg _ _ _ _ _ _ _ => []
  | .movImm _ _ _ _ _ => []
  | .movShImm _ _ _ _ _ _ => []
  | .movShReg _ _ _ _ _ _ => []
  | .bicImm _ _ _ _ _ _ => []
  | .bicShImm _ _ _ _ _ _ _ => []
  | .bicShReg _ _ _ _ _ _ _ => []
  | .mvnImm _ _ _ _ _ => []
  | .mvnShImm _ _ _ _ _ _ => []
  | .mvnShReg _ _ _ _ _ _ => []
  | .mrs _ _ _ => []
  | .msrReg _ _ _ _ => []
  | .msrImm _ _ _ _ _ => []
  | .bx _ _ => []
  | .ldrImm _ _ _ _ _ _ _ => []
  | .ldrReg _ _ _ _ _ _ _ _ _ => []
  | .strImm _ p u w rn _ off => [((transferAddress s.pc p u w rn (off.setWidth 32) s).addr, .word)]
  | .strReg _ p u w rn _ shamt ty rm => [((transferAddress s.pc p u w rn (shiftedOffset s.pc shamt ty rm s) s).addr, .word)]
  | .ldrbImm _ _ _ _ _ _ _ => []
  | .ldrbReg _ _ _ _ _ _ _ _ _ => []
  | .strbImm _ p u w rn _ off => [((transferAddress s.pc p u w rn (off.setWidth 32) s).addr, .byte)]
  | .strbReg _ p u w rn _ shamt ty rm => [((transferAddress s.pc p u w rn (shiftedOffset s.pc shamt ty rm s) s).addr, .byte)]
  | .undefArch _ => []
  | .ldm _ _ _ _ _ _ _ => []
  | .stm _ p u _ _ rn list => wordsFrom (regList list).length (blockAddress (s.xOr (s.pc + s.cfg.armPcAhead) rn) p u (regList list).length).1
  | .b _ _ => []
  | .bl _ _ => []
  | .undefCopTransfer _ => []
  | .undefCopOp _ => []
  | .swi _ _ => []
  | .mul _ _ _ _ _ => []
  | .mla _ _ _ _ _ _ => []
  | .umull _ _ _ _ _ _ => []
  | .umlal _ _ _ _ _ _ => []
  | .smull _ _ _ _ _ _ => []
  | .smlal _ _ _ _ _ _ => []
  | .swp _ rn _ _ => [(mulOperand s.pc rn s, .word)]
  | .swpb _ rn _ _ => [(mulOperand s.pc rn s, .byte)]
  | .strhReg _ p u w rn _ rm => [((transferAddress s.pc p u w rn (s.xOr (s.pc + s.cfg.armPcAhead) rm) s).addr, .half)]
  | .strhImm _ p u w rn _ off => [((transferAddress s.pc p u w rn (off.setWidth 32) s).addr, .half)]
  | .ldrhReg _ _ _ _ _ _ _ => []
  | .ldrhImm _ _ _ _ _ _ _ => []
  | .ldrsbReg _ _ _ _ _ _ _ => []
  | .ldrsbImm _ _ _ _ _ _ _ => []
  | .ldrshReg _ _ _ _ _ _ _ => []
  | .ldrshImm _ _ _ _ _ _ _ => []
  | .undefDoubleword _ => []
  | .tLslImm _ _ _ => []
  | .tLsrImm _ _ _ => []
  | .tAsrImm _ _ _ => []
  | .tAddReg _ _ _ => []
  | .tSubReg _ _ _ => []
  | .tAddImm3 _ _ _ => []
  | .tSubImm3 _ _ _ => []
  | .tMovImm8 _ _ => []
  | .tCmpImm8 _ _ => []
  | .tAddImm8 _ _ => []
  | .tSubImm8 _ _ => []
  | .tAnd _ _ => []
  | .tEor _ _ => []
  | .tLsl _ _ => []
  | .tLsr _ _ => []
  | .tAsr _ _ => []
  | .tAdc _ _ => []
  | .tSbc _ _ => []
  | .tRor _ _ => []
  | .tTst _ _ => []
  | .tNeg _ _ => []
  | .tCmp _ _ => []
  | .tCmn _ _ => []
  | .tOrr _ _ => []
  | .tMul _ _ => []
  | .tBic _ _ => []
  | .tMvn _ _ => []
  | .tAddHi _ _ => []
  | .tCmpHi _ _ => []
  | .tMovHi _ _ => []
  | .tBx _ => []
  | .tUndefBxH1 => []
  | .tLdrPc _ _ => []
  | .tStrReg _ rb ro => [(thumbRegAddress rb ro s, .word)]
  | .tStrbReg _ rb ro => [(thumbRegAddress rb ro s, .byte)]
  | .tLdrReg _ _ _ => []
  | .tLdrbReg _ _ _ => []
  | .tStrhReg _ rb ro => [(thumbRegAddress rb ro s, .half)]
  | .tLdsbReg _ _ _ => []
  | .tLdrhReg _ _ _ => []
  | .tLdshReg _ _ _ => []
  | .tStrImm _ rb off => [(thumbImmAddress rb (off.setWidth 32) s, .word)]
  | .tLdrImm _ _ _ => []
  | .tStrbImm _ rb off => [(thumbImmAddress rb (off.setWidth 32) s, .byte)]
  | .tLdrbImm _ _ _ => []
  | .tStrhImm _ rb off => [(thumbImmAddress rb (off.setWidth 32) s, .half)]
  | .tLdrhImm _ _ _ => []
  | .tStrSp _ off => [(s.x 13#4 + off.setWidth 32, .word)]
  | .tLdrSp _ _ => []
  | .tAddPc _ _ => []
  | .tAddSp _ _ => []
  | .tAddSpPos _ => []
  | .tAddSpNeg _ => []
  | .tUndefB1 => []
  | .tUndefB2 => []
  | .tPush r list => wordsFrom (pushList r list).length (s.x 13#4 - BitVec.ofNat 32 (4 * (pushList r list).length))
  | .tUndefB6 => []
  | .tUndefB8 => []
  | .tPop _ _ => []
  | .tUndefBe => []
  | .tStmia rb list => wordsFrom (lowRegList list).length (s.x (lo rb))
  | .tLdmia _ _ => []
  | .tBeq _ => []
  | .tBne _ => []
  | .tBcs _ => []
  | .tBcc _ => []
  | .tBmi _ => []
  | .tBpl _ => []
  | .tBvs _ => []
  | .tBvc _ => []
  | .tBhi _ => []
  | .tBls _ => []
  | .tBge _ => []
  | .tBlt _ => []
  | .tBgt _ => []
  | .tBle _ => []
  | .tUndefCond14 => []
  | .tSwi _ => []
  | .tB _ => []
  | .tUndefBlxSuffix => []
  | .tBlHi _ => []
  | .tBlLo _ => []

/-- The keys of the bytes an instruction stores to. -/
def Instr.storedKeys (i : Instr) (s : State) : List Nat :=
  (Instr.stores i s).flatMap (fun p => storeKeys s.cfg p.1 p.2)

/-- Which bits of the current status word an instruction may change. -/
inductive StatusEffect where
  /-- None. -/
  | nothing
  /-- N and Z. -/
  | signZero
  /-- N, Z and C. -/
  | logical
  /-- N, Z, C and V. -/
  | arithmetic
  /-- T. -/
  | selector
  /-- The mode, T and I: an exception entry (60_exceptions.md R500). -/
  | entry
  /-- All of it. -/
  | everything
  deriving DecidableEq, Repr

/-- The bits of the status word outside an effect are unchanged. -/
def StatusEffect.keeps (e : StatusEffect) (p q : Cpsr) : Prop :=
  match e with
  | .nothing => q = p
  | .signZero => q = { p with n := q.n, z := q.z }
  | .logical => q = { p with n := q.n, z := q.z, c := q.c }
  | .arithmetic => q = { p with n := q.n, z := q.z, c := q.c, v := q.v }
  | .selector => q = { p with t := q.t }
  | .entry => q = { p with t := q.t, i := q.i, mode := q.mode }
  | .everything => True

/-- The effect of a trap on the status word, under its policy. -/
def trapStatus : TrapPolicy → StatusEffect
  | .trap => .entry
  | .noEffect => .nothing

/-- The effect of each instruction on the status word, from its rule. -/
def Instr.status (cfg : Cfg) (i : Instr) : StatusEffect :=
  match i with
  | .andImm _ sf _ rd _ _ => if !sf then .nothing else if rd = 15#4 then .everything else .logical
  | .andShImm _ sf _ rd _ _ _ => if !sf then .nothing else if rd = 15#4 then .everything else .logical
  | .andShReg _ sf _ rd _ _ _ => if !sf then .nothing else if rd = 15#4 then .everything else .logical
  | .eorImm _ sf _ rd _ _ => if !sf then .nothing else if rd = 15#4 then .everything else .logical
  | .eorShImm _ sf _ rd _ _ _ => if !sf then .nothing else if rd = 15#4 then .everything else .logical
  | .eorShReg _ sf _ rd _ _ _ => if !sf then .nothing else if rd = 15#4 then .everything else .logical
  | .subImm _ sf _ rd _ _ => if !sf then .nothing else if rd = 15#4 then .everything else .arithmetic
  | .subShImm _ sf _ rd _ _ _ => if !sf then .nothing else if rd = 15#4 then .everything else .arithmetic
  | .subShReg _ sf _ rd _ _ _ => if !sf then .nothing else if rd = 15#4 then .everything else .arithmetic
  | .rsbImm _ sf _ rd _ _ => if !sf then .nothing else if rd = 15#4 then .everything else .arithmetic
  | .rsbShImm _ sf _ rd _ _ _ => if !sf then .nothing else if rd = 15#4 then .everything else .arithmetic
  | .rsbShReg _ sf _ rd _ _ _ => if !sf then .nothing else if rd = 15#4 then .everything else .arithmetic
  | .addImm _ sf _ rd _ _ => if !sf then .nothing else if rd = 15#4 then .everything else .arithmetic
  | .addShImm _ sf _ rd _ _ _ => if !sf then .nothing else if rd = 15#4 then .everything else .arithmetic
  | .addShReg _ sf _ rd _ _ _ => if !sf then .nothing else if rd = 15#4 then .everything else .arithmetic
  | .adcImm _ sf _ rd _ _ => if !sf then .nothing else if rd = 15#4 then .everything else .arithmetic
  | .adcShImm _ sf _ rd _ _ _ => if !sf then .nothing else if rd = 15#4 then .everything else .arithmetic
  | .adcShReg _ sf _ rd _ _ _ => if !sf then .nothing else if rd = 15#4 then .everything else .arithmetic
  | .sbcImm _ sf _ rd _ _ => if !sf then .nothing else if rd = 15#4 then .everything else .arithmetic
  | .sbcShImm _ sf _ rd _ _ _ => if !sf then .nothing else if rd = 15#4 then .everything else .arithmetic
  | .sbcShReg _ sf _ rd _ _ _ => if !sf then .nothing else if rd = 15#4 then .everything else .arithmetic
  | .rscImm _ sf _ rd _ _ => if !sf then .nothing else if rd = 15#4 then .everything else .arithmetic
  | .rscShImm _ sf _ rd _ _ _ => if !sf then .nothing else if rd = 15#4 then .everything else .arithmetic
  | .rscShReg _ sf _ rd _ _ _ => if !sf then .nothing else if rd = 15#4 then .everything else .arithmetic
  | .tstImm _ _ _ _ => .logical
  | .tstShImm _ _ _ _ _ => .logical
  | .tstShReg _ _ _ _ _ => .logical
  | .teqImm _ _ _ _ => .logical
  | .teqShImm _ _ _ _ _ => .logical
  | .teqShReg _ _ _ _ _ => .logical
  | .cmpImm _ _ _ _ => .arithmetic
  | .cmpShImm _ _ _ _ _ => .arithmetic
  | .cmpShReg _ _ _ _ _ => .arithmetic
  | .cmnImm _ _ _ _ => .arithmetic
  | .cmnShImm _ _ _ _ _ => .arithmetic
  | .cmnShReg _ _ _ _ _ => .arithmetic
  | .orrImm _ sf _ rd _ _ => if !sf then .nothing else if rd = 15#4 then .everything else .logical
  | .orrShImm _ sf _ rd _ _ _ => if !sf then .nothing else if rd = 15#4 then .everything else .logical
  | .orrShReg _ sf _ rd _ _ _ => if !sf then .nothing else if rd = 15#4 then .everything else .logical
  | .movImm _ sf rd _ _ => if !sf then .nothing else if rd = 15#4 then .everything else .logical
  | .movShImm _ sf rd _ _ _ => if !sf then .nothing else if rd = 15#4 then .everything else .logical
  | .movShReg _ sf rd _ _ _ => if !sf then .nothing else if rd = 15#4 then .everything else .logical
  | .bicImm _ sf _ rd _ _ => if !sf then .nothing else if rd = 15#4 then .everything else .logical
  | .bicShImm _ sf _ rd _ _ _ => if !sf then .nothing else if rd = 15#4 then .everything else .logical
  | .bicShReg _ sf _ rd _ _ _ => if !sf then .nothing else if rd = 15#4 then .everything else .logical
  | .mvnImm _ sf rd _ _ => if !sf then .nothing else if rd = 15#4 then .everything else .logical
  | .mvnShImm _ sf rd _ _ _ => if !sf then .nothing else if rd = 15#4 then .everything else .logical
  | .mvnShReg _ sf rd _ _ _ => if !sf then .nothing else if rd = 15#4 then .everything else .logical
  | .mrs _ _ _ => .nothing
  | .msrReg _ p _ _ => if p then .nothing else .everything
  | .msrImm _ p _ _ _ => if p then .nothing else .everything
  | .bx _ _ => .selector
  | .ldrImm _ _ _ _ _ _ _ => .nothing
  | .ldrReg _ _ _ _ _ _ _ _ _ => .nothing
  | .strImm _ _ _ _ _ _ _ => .nothing
  | .strReg _ _ _ _ _ _ _ _ _ => .nothing
  | .ldrbImm _ _ _ _ _ _ _ => .nothing
  | .ldrbReg _ _ _ _ _ _ _ _ _ => .nothing
  | .strbImm _ _ _ _ _ _ _ => .nothing
  | .strbReg _ _ _ _ _ _ _ _ _ => .nothing
  | .undefArch _ => trapStatus cfg.unrecognizedPolicy
  | .ldm _ _ _ sbit _ _ list => if sbit && list.getLsbD 15 then .everything else .nothing
  | .stm _ _ _ _ _ _ _ => .nothing
  | .b _ _ => .nothing
  | .bl _ _ => .nothing
  | .undefCopTransfer _ => trapStatus cfg.unrecognizedPolicy
  | .undefCopOp _ => trapStatus cfg.unrecognizedPolicy
  | .swi _ _ => trapStatus cfg.swiPolicy
  | .mul _ sf _ _ _ => if sf then .signZero else .nothing
  | .mla _ sf _ _ _ _ => if sf then .signZero else .nothing
  | .umull _ sf _ _ _ _ => if sf then .signZero else .nothing
  | .umlal _ sf _ _ _ _ => if sf then .signZero else .nothing
  | .smull _ sf _ _ _ _ => if sf then .signZero else .nothing
  | .smlal _ sf _ _ _ _ => if sf then .signZero else .nothing
  | .swp _ _ _ _ => .nothing
  | .swpb _ _ _ _ => .nothing
  | .strhReg _ _ _ _ _ _ _ => .nothing
  | .strhImm _ _ _ _ _ _ _ => .nothing
  | .ldrhReg _ _ _ _ _ _ _ => .nothing
  | .ldrhImm _ _ _ _ _ _ _ => .nothing
  | .ldrsbReg _ _ _ _ _ _ _ => .nothing
  | .ldrsbImm _ _ _ _ _ _ _ => .nothing
  | .ldrshReg _ _ _ _ _ _ _ => .nothing
  | .ldrshImm _ _ _ _ _ _ _ => .nothing
  | .undefDoubleword _ => trapStatus cfg.unrecognizedPolicy
  | .tLslImm _ _ _ => .logical
  | .tLsrImm _ _ _ => .logical
  | .tAsrImm _ _ _ => .logical
  | .tAddReg _ _ _ => .arithmetic
  | .tSubReg _ _ _ => .arithmetic
  | .tAddImm3 _ _ _ => .arithmetic
  | .tSubImm3 _ _ _ => .arithmetic
  | .tMovImm8 _ _ => .signZero
  | .tCmpImm8 _ _ => .arithmetic
  | .tAddImm8 _ _ => .arithmetic
  | .tSubImm8 _ _ => .arithmetic
  | .tAnd _ _ => .signZero
  | .tEor _ _ => .signZero
  | .tLsl _ _ => .logical
  | .tLsr _ _ => .logical
  | .tAsr _ _ => .logical
  | .tAdc _ _ => .arithmetic
  | .tSbc _ _ => .arithmetic
  | .tRor _ _ => .logical
  | .tTst _ _ => .signZero
  | .tNeg _ _ => .arithmetic
  | .tCmp _ _ => .arithmetic
  | .tCmn _ _ => .arithmetic
  | .tOrr _ _ => .signZero
  | .tMul _ _ => .signZero
  | .tBic _ _ => .signZero
  | .tMvn _ _ => .signZero
  | .tAddHi _ _ => .nothing
  | .tCmpHi _ _ => .arithmetic
  | .tMovHi _ _ => .nothing
  | .tBx _ => .selector
  | .tUndefBxH1 => trapStatus cfg.unrecognizedPolicy
  | .tLdrPc _ _ => .nothing
  | .tStrReg _ _ _ => .nothing
  | .tStrbReg _ _ _ => .nothing
  | .tLdrReg _ _ _ => .nothing
  | .tLdrbReg _ _ _ => .nothing
  | .tStrhReg _ _ _ => .nothing
  | .tLdsbReg _ _ _ => .nothing
  | .tLdrhReg _ _ _ => .nothing
  | .tLdshReg _ _ _ => .nothing
  | .tStrImm _ _ _ => .nothing
  | .tLdrImm _ _ _ => .nothing
  | .tStrbImm _ _ _ => .nothing
  | .tLdrbImm _ _ _ => .nothing
  | .tStrhImm _ _ _ => .nothing
  | .tLdrhImm _ _ _ => .nothing
  | .tStrSp _ _ => .nothing
  | .tLdrSp _ _ => .nothing
  | .tAddPc _ _ => .nothing
  | .tAddSp _ _ => .nothing
  | .tAddSpPos _ => .nothing
  | .tAddSpNeg _ => .nothing
  | .tUndefB1 => trapStatus cfg.unrecognizedPolicy
  | .tUndefB2 => trapStatus cfg.unrecognizedPolicy
  | .tPush _ _ => .nothing
  | .tUndefB6 => trapStatus cfg.unrecognizedPolicy
  | .tUndefB8 => trapStatus cfg.unrecognizedPolicy
  | .tPop _ _ => .nothing
  | .tUndefBe => trapStatus cfg.unrecognizedPolicy
  | .tStmia _ _ => .nothing
  | .tLdmia _ _ => .nothing
  | .tBeq _ => .nothing
  | .tBne _ => .nothing
  | .tBcs _ => .nothing
  | .tBcc _ => .nothing
  | .tBmi _ => .nothing
  | .tBpl _ => .nothing
  | .tBvs _ => .nothing
  | .tBvc _ => .nothing
  | .tBhi _ => .nothing
  | .tBls _ => .nothing
  | .tBge _ => .nothing
  | .tBlt _ => .nothing
  | .tBgt _ => .nothing
  | .tBle _ => .nothing
  | .tUndefCond14 => trapStatus cfg.unrecognizedPolicy
  | .tSwi _ => trapStatus cfg.swiPolicy
  | .tB _ => .nothing
  | .tUndefBlxSuffix => trapStatus cfg.unrecognizedPolicy
  | .tBlHi _ => .nothing
  | .tBlLo _ => .nothing

/-- Whether an instruction belongs to an unlisted family (49_unlisted_families.md R400): multiply, swap, halfword and signed transfers,
in both instruction sets. -/
def Instr.unlisted (i : Instr) : Bool :=
  match i with
  | .mul .. | .mla .. | .umull .. | .umlal .. | .smull .. | .smlal .. | .swp .. | .swpb .. | .strhReg .. | .strhImm ..
  | .ldrhReg .. | .ldrhImm .. | .ldrsbReg .. | .ldrsbImm .. | .ldrshReg .. | .ldrshImm .. | .tMul .. | .tStrhReg ..
  | .tLdsbReg .. | .tLdrhReg .. | .tLdshReg .. | .tStrhImm .. | .tLdrhImm .. => true
  | .andImm .. | .andShImm .. | .andShReg .. | .eorImm .. | .eorShImm .. | .eorShReg .. | .subImm .. | .subShImm ..
  | .subShReg .. | .rsbImm .. | .rsbShImm .. | .rsbShReg .. | .addImm .. | .addShImm .. | .addShReg .. | .adcImm ..
  | .adcShImm .. | .adcShReg .. | .sbcImm .. | .sbcShImm .. | .sbcShReg .. | .rscImm .. | .rscShImm .. | .rscShReg ..
  | .tstImm .. | .tstShImm .. | .tstShReg .. | .teqImm .. | .teqShImm .. | .teqShReg .. | .cmpImm .. | .cmpShImm ..
  | .cmpShReg .. | .cmnImm .. | .cmnShImm .. | .cmnShReg .. | .orrImm .. | .orrShImm .. | .orrShReg .. | .movImm ..
  | .movShImm .. | .movShReg .. | .bicImm .. | .bicShImm .. | .bicShReg .. | .mvnImm .. | .mvnShImm .. | .mvnShReg ..
  | .mrs .. | .msrReg .. | .msrImm .. | .bx .. | .ldrImm .. | .ldrReg .. | .strImm .. | .strReg .. | .ldrbImm ..
  | .ldrbReg .. | .strbImm .. | .strbReg .. | .undefArch .. | .ldm .. | .stm .. | .b .. | .bl .. | .undefCopTransfer ..
  | .undefCopOp .. | .swi .. | .undefDoubleword .. | .tLslImm .. | .tLsrImm .. | .tAsrImm .. | .tAddReg .. | .tSubReg ..
  | .tAddImm3 .. | .tSubImm3 .. | .tMovImm8 .. | .tCmpImm8 .. | .tAddImm8 .. | .tSubImm8 .. | .tAnd .. | .tEor .. | .tLsl ..
  | .tLsr .. | .tAsr .. | .tAdc .. | .tSbc .. | .tRor .. | .tTst .. | .tNeg .. | .tCmp .. | .tCmn .. | .tOrr .. | .tBic ..
  | .tMvn .. | .tAddHi .. | .tCmpHi .. | .tMovHi .. | .tBx .. | .tUndefBxH1 .. | .tLdrPc .. | .tStrReg .. | .tStrbReg ..
  | .tLdrReg .. | .tLdrbReg .. | .tStrImm .. | .tLdrImm .. | .tStrbImm .. | .tLdrbImm .. | .tStrSp .. | .tLdrSp ..
  | .tAddPc .. | .tAddSp .. | .tAddSpPos .. | .tAddSpNeg .. | .tUndefB1 .. | .tUndefB2 .. | .tPush .. | .tUndefB6 ..
  | .tUndefB8 .. | .tPop .. | .tUndefBe .. | .tStmia .. | .tLdmia .. | .tBeq .. | .tBne .. | .tBcs .. | .tBcc .. | .tBmi ..
  | .tBpl .. | .tBvs .. | .tBvc .. | .tBhi .. | .tBls .. | .tBge .. | .tBlt .. | .tBgt .. | .tBle .. | .tUndefCond14 ..
  | .tSwi .. | .tB .. | .tUndefBlxSuffix .. | .tBlHi .. | .tBlLo .. => false

end Sys2Proof.Machine
end

