-- ==== Sys2Proof/Certificates/Slice0/Obligations.lean ====
section
/-! DEFINITION. The statements for the provers, and the vocabulary they are written in: the shapes that let one statement speak of
several instructions, and the results of operations written in integer arithmetic, apart from the model's own adder and shifter. -/

open Sys2Proof Sys2Proof.Machine

namespace Sys2Proof.Claims

/-! ## Data processing -/

/-- The twelve data-processing operations that have a destination (spec/41_data_processing.md R202 to R217). -/
inductive DpOp where
  | and | eor | sub | rsb | add | adc | sbc | rsc | orr | mov | bic | mvn
  deriving DecidableEq, Repr

/-- The four comparisons (R210 to R213). -/
inductive CmpOp where
  | tst | teq | cmp | cmn
  deriving DecidableEq, Repr

/-- The instruction of an operation, a condition, the S bit, two registers and a second operand; MOV and MVN have no Rn. -/
def DpOp.instr (k : DpOp) (c : Cond) (sf : Bool) (rn rd : Reg) (o : Operand2) : Instr :=
  match k, o with
  | .and, .imm rot imm8 => .andImm c sf rn rd rot imm8
  | .and, .shImm shamt ty rm => .andShImm c sf rn rd shamt ty rm
  | .and, .shReg rs ty rm => .andShReg c sf rn rd rs ty rm
  | .eor, .imm rot imm8 => .eorImm c sf rn rd rot imm8
  | .eor, .shImm shamt ty rm => .eorShImm c sf rn rd shamt ty rm
  | .eor, .shReg rs ty rm => .eorShReg c sf rn rd rs ty rm
  | .sub, .imm rot imm8 => .subImm c sf rn rd rot imm8
  | .sub, .shImm shamt ty rm => .subShImm c sf rn rd shamt ty rm
  | .sub, .shReg rs ty rm => .subShReg c sf rn rd rs ty rm
  | .rsb, .imm rot imm8 => .rsbImm c sf rn rd rot imm8
  | .rsb, .shImm shamt ty rm => .rsbShImm c sf rn rd shamt ty rm
  | .rsb, .shReg rs ty rm => .rsbShReg c sf rn rd rs ty rm
  | .add, .imm rot imm8 => .addImm c sf rn rd rot imm8
  | .add, .shImm shamt ty rm => .addShImm c sf rn rd shamt ty rm
  | .add, .shReg rs ty rm => .addShReg c sf rn rd rs ty rm
  | .adc, .imm rot imm8 => .adcImm c sf rn rd rot imm8
  | .adc, .shImm shamt ty rm => .adcShImm c sf rn rd shamt ty rm
  | .adc, .shReg rs ty rm => .adcShReg c sf rn rd rs ty rm
  | .sbc, .imm rot imm8 => .sbcImm c sf rn rd rot imm8
  | .sbc, .shImm shamt ty rm => .sbcShImm c sf rn rd shamt ty rm
  | .sbc, .shReg rs ty rm => .sbcShReg c sf rn rd rs ty rm
  | .rsc, .imm rot imm8 => .rscImm c sf rn rd rot imm8
  | .rsc, .shImm shamt ty rm => .rscShImm c sf rn rd shamt ty rm
  | .rsc, .shReg rs ty rm => .rscShReg c sf rn rd rs ty rm
  | .orr, .imm rot imm8 => .orrImm c sf rn rd rot imm8
  | .orr, .shImm shamt ty rm => .orrShImm c sf rn rd shamt ty rm
  | .orr, .shReg rs ty rm => .orrShReg c sf rn rd rs ty rm
  | .mov, .imm rot imm8 => .movImm c sf rd rot imm8
  | .mov, .shImm shamt ty rm => .movShImm c sf rd shamt ty rm
  | .mov, .shReg rs ty rm => .movShReg c sf rd rs ty rm
  | .bic, .imm rot imm8 => .bicImm c sf rn rd rot imm8
  | .bic, .shImm shamt ty rm => .bicShImm c sf rn rd shamt ty rm
  | .bic, .shReg rs ty rm => .bicShReg c sf rn rd rs ty rm
  | .mvn, .imm rot imm8 => .mvnImm c sf rd rot imm8
  | .mvn, .shImm shamt ty rm => .mvnShImm c sf rd shamt ty rm
  | .mvn, .shReg rs ty rm => .mvnShReg c sf rd rs ty rm

/-- The instruction of a comparison. -/
def CmpOp.instr (k : CmpOp) (c : Cond) (rn : Reg) (o : Operand2) : Instr :=
  match k, o with
  | .tst, .imm rot imm8 => .tstImm c rn rot imm8
  | .tst, .shImm shamt ty rm => .tstShImm c rn shamt ty rm
  | .tst, .shReg rs ty rm => .tstShReg c rn rs ty rm
  | .teq, .imm rot imm8 => .teqImm c rn rot imm8
  | .teq, .shImm shamt ty rm => .teqShImm c rn shamt ty rm
  | .teq, .shReg rs ty rm => .teqShReg c rn rs ty rm
  | .cmp, .imm rot imm8 => .cmpImm c rn rot imm8
  | .cmp, .shImm shamt ty rm => .cmpShImm c rn shamt ty rm
  | .cmp, .shReg rs ty rm => .cmpShReg c rn rs ty rm
  | .cmn, .imm rot imm8 => .cmnImm c rn rot imm8
  | .cmn, .shImm shamt ty rm => .cmnShImm c rn shamt ty rm
  | .cmn, .shReg rs ty rm => .cmnShReg c rn rs ty rm

/-- A carry as a number. -/
def carryWord (cin : Bool) : Word := if cin then 1#32 else 0#32

/-- Whether an exact signed result does not fit in 32 bits: signed overflow. -/
def outOfRange (r : Int) : Bool := decide (r < -(2 ^ 31) ∨ 2 ^ 31 ≤ r)

/-- What an operation leaves: result, C, and V where the operation writes V. -/
structure Outcome where
  result : Word
  carry : Bool
  overflow : Option Bool
  deriving DecidableEq, Repr

/-- `x + y + cin`: C is a sum of at least 2^32, V an exact signed sum out of range. -/
def sumOf (x y : Word) (cin : Bool) : Outcome :=
  { result := x + y + carryWord cin
    carry := decide (2 ^ 32 ≤ x.toNat + y.toNat + cin.toNat)
    overflow := some (outOfRange (x.toInt + y.toInt + cin.toNat)) }

/-- `x - y - (1 - cin)`: C is "no borrow occurred", V an exact signed difference out of range. -/
def differenceOf (x y : Word) (cin : Bool) : Outcome :=
  { result := x - y - carryWord (!cin)
    carry := decide (y.toNat + (!cin).toNat ≤ x.toNat)
    overflow := some (outOfRange (x.toInt - y.toInt - (!cin).toNat)) }

/-- A logical operation: C from the shifter, V not written. -/
def logicOf (r : Word) (sc : Bool) : Outcome := { result := r, carry := sc, overflow := none }

/-- The outcome of an operation on its first operand, second operand with shifter carry, and carry in. -/
def DpOp.outcome (k : DpOp) (a : Word) (b : Word × Bool) (cin : Bool) : Outcome :=
  match k with
  | .and => logicOf (a &&& b.1) b.2
  | .eor => logicOf (a ^^^ b.1) b.2
  | .sub => differenceOf a b.1 true
  | .rsb => differenceOf b.1 a true
  | .add => sumOf a b.1 false
  | .adc => sumOf a b.1 cin
  | .sbc => differenceOf a b.1 cin
  | .rsc => differenceOf b.1 a cin
  | .orr => logicOf (a ||| b.1) b.2
  | .mov => logicOf b.1 b.2
  | .bic => logicOf (a &&& ~~~b.1) b.2
  | .mvn => logicOf (~~~b.1) b.2

/-- The outcome of a comparison. -/
def CmpOp.outcome (k : CmpOp) (a : Word) (b : Word × Bool) : Outcome :=
  match k with
  | .tst => logicOf (a &&& b.1) b.2
  | .teq => logicOf (a ^^^ b.1) b.2
  | .cmp => differenceOf a b.1 true
  | .cmn => sumOf a b.1 false

/-- The flags an outcome leaves: N and Z of the result, its C, its V or the old one. -/
def Outcome.flags (o : Outcome) (p : Cpsr) : Cpsr :=
  { p with n := decide (o.result.toInt < 0), z := decide (o.result = 0#32), c := o.carry, v := o.overflow.getD p.v }

/-- A register operand of an instruction at `pc`: register 15 reads A + 8, the lead of the configuration (10_state.md R27). -/
def armReg (i : Reg) (s : State) : Word := if i = 15#4 then s.pc + s.cfg.armPcAhead else s.x i

/-- A register operand in format A3 and a register read by a store: register 15 is A + 12 (41_data_processing.md R200,
42_single_transfer.md R231). -/
def armLateReg (i : Reg) (s : State) : Word := if i = 15#4 then s.pc + 12#32 else s.x i

/-- The first operand of a data-processing instruction at `pc`, beside a second operand (R200). -/
def firstOperand (o : Operand2) (rn : Reg) (s : State) : Word :=
  match o with
  | .imm _ _ | .shImm _ _ _ => armReg rn s
  | .shReg _ _ _ => armLateReg rn s

/-- The second operand and its carry (R200): the rotated immediate (40_execution_common.md R165), or the shifter's value. -/
def secondOperand (o : Operand2) (s : State) : Word × Bool :=
  match o with
  | .imm rot imm8 =>
    let v : Word := (imm8.setWidth 32 >>> (2 * rot.toNat)) ||| (imm8.setWidth 32 <<< (32 - 2 * rot.toNat))
    (v, if rot = 0#4 then s.cpsr.c else v.getLsbD 31)
  | .shImm shamt ty rm => shiftImm ty shamt (armReg rm s) s.cpsr.c
  | .shReg rs ty rm => shiftReg ty ((armLateReg rs s).setWidth 8) (armLateReg rm s) s.cpsr.c

/-- The outcome of a data-processing instruction at `pc`. -/
def DpOp.run (k : DpOp) (rn : Reg) (o : Operand2) (s : State) : Outcome :=
  k.outcome (firstOperand o rn s) (secondOperand o s) s.cpsr.c

/-- The outcome of a comparison instruction at `pc`. -/
def CmpOp.run (k : CmpOp) (rn : Reg) (o : Operand2) (s : State) : Outcome :=
  k.outcome (firstOperand o rn s) (secondOperand o s)

/-! ## Transfers of 32-bit mode -/

/-- The ten single loads, by what they load and by their offset (42_single_transfer.md, 49_unlisted_families.md section 5). -/
inductive LoadForm where
  | wordImm (off : BitVec 12)
  | wordReg (shamt : BitVec 5) (ty : ShiftType) (rm : Reg)
  | byteImm (off : BitVec 12)
  | byteReg (shamt : BitVec 5) (ty : ShiftType) (rm : Reg)
  | halfImm (off : BitVec 8)
  | halfReg (rm : Reg)
  | signedByteImm (off : BitVec 8)
  | signedByteReg (rm : Reg)
  | signedHalfImm (off : BitVec 8)
  | signedHalfReg (rm : Reg)
  deriving DecidableEq, Repr

/-- The six single stores. -/
inductive StoreForm where
  | wordImm (off : BitVec 12)
  | wordReg (shamt : BitVec 5) (ty : ShiftType) (rm : Reg)
  | byteImm (off : BitVec 12)
  | byteReg (shamt : BitVec 5) (ty : ShiftType) (rm : Reg)
  | halfImm (off : BitVec 8)
  | halfReg (rm : Reg)
  deriving DecidableEq, Repr

/-- The load instruction of a form. -/
def LoadForm.instr (f : LoadForm) (c : Cond) (p u w : Bool) (rn rd : Reg) : Instr :=
  match f with
  | .wordImm off => .ldrImm c p u w rn rd off
  | .wordReg shamt ty rm => .ldrReg c p u w rn rd shamt ty rm
  | .byteImm off => .ldrbImm c p u w rn rd off
  | .byteReg shamt ty rm => .ldrbReg c p u w rn rd shamt ty rm
  | .halfImm off => .ldrhImm c p u w rn rd off
  | .halfReg rm => .ldrhReg c p u w rn rd rm
  | .signedByteImm off => .ldrsbImm c p u w rn rd off
  | .signedByteReg rm => .ldrsbReg c p u w rn rd rm
  | .signedHalfImm off => .ldrshImm c p u w rn rd off
  | .signedHalfReg rm => .ldrshReg c p u w rn rd rm

/-- The store instruction of a form. -/
def StoreForm.instr (f : StoreForm) (c : Cond) (p u w : Bool) (rn rd : Reg) : Instr :=
  match f with
  | .wordImm off => .strImm c p u w rn rd off
  | .wordReg shamt ty rm => .strReg c p u w rn rd shamt ty rm
  | .byteImm off => .strbImm c p u w rn rd off
  | .byteReg shamt ty rm => .strbReg c p u w rn rd shamt ty rm
  | .halfImm off => .strhImm c p u w rn rd off
  | .halfReg rm => .strhReg c p u w rn rd rm

/-- The offset of a load form. -/
def LoadForm.offset (f : LoadForm) (s : State) : Word :=
  match f with
  | .wordImm off | .byteImm off => off.setWidth 32
  | .wordReg shamt ty rm | .byteReg shamt ty rm => (shiftImm ty shamt (armReg rm s) s.cpsr.c).1
  | .halfImm off | .signedByteImm off | .signedHalfImm off => off.setWidth 32
  | .halfReg rm | .signedByteReg rm | .signedHalfReg rm => armReg rm s

/-- The offset of a store form. -/
def StoreForm.offset (f : StoreForm) (s : State) : Word :=
  match f with
  | .wordImm off | .byteImm off => off.setWidth 32
  | .wordReg shamt ty rm | .byteReg shamt ty rm => (shiftImm ty shamt (armReg rm s) s.cpsr.c).1
  | .halfImm off => off.setWidth 32
  | .halfReg rm => armReg rm s

/-- The width of a store form. -/
def StoreForm.width : StoreForm → Width
  | .wordImm _ | .wordReg _ _ _ => .word
  | .byteImm _ | .byteReg _ _ _ => .byte
  | .halfImm _ | .halfReg _ => .half

/-- Base plus or minus offset. -/
def indexed (u : Bool) (base off : Word) : Word := if u then base + off else base - off

/-- The address a transfer uses: the indexed one when P = 1, else the base (42_single_transfer.md R230). -/
def transferAt (p u : Bool) (base off : Word) : Word := if p then indexed u base off else base

/-- Whether the base register is written back. -/
def writesBack (p w : Bool) (rn : Reg) : Prop := (p = false ∨ w = true) ∧ rn ≠ 15#4

/-- The value loaded from an address, as a function of the reads (42_single_transfer.md R232, R235; 49_unlisted_families.md R419
to R421; 20_memory.md R83). -/
def LoadForm.value (f : LoadForm) (a : Word) (s : State) : Word :=
  match f with
  | .wordImm _ | .wordReg _ _ _ => (memRead a .word s).1.rotateRight (8 * (a.toNat % 4))
  | .byteImm _ | .byteReg _ _ _ => (memRead a .byte s).1
  | .halfImm _ | .halfReg _ => (memRead a .half s).1.rotateRight (8 * (a.toNat % 2))
  | .signedByteImm _ | .signedByteReg _ => ((memRead a .byte s).1.setWidth 8).signExtend 32
  | .signedHalfImm _ | .signedHalfReg _ =>
    if a.toNat % 2 = 1 then (((memRead a .half s).1 >>> 8).setWidth 8).signExtend 32
    else ((memRead a .half s).1.setWidth 16).signExtend 32

/-- The width of a load form's access (20_memory.md R83). -/
def LoadForm.width : LoadForm → Width
  | .wordImm _ | .wordReg _ _ _ => .word
  | .byteImm _ | .byteReg _ _ _ | .signedByteImm _ | .signedByteReg _ => .byte
  | .halfImm _ | .halfReg _ | .signedHalfImm _ | .signedHalfReg _ => .half

/-- The access a load leaves as the last one: the aligned unit of its width, performed at `a & ~3`, `a & ~1` or `a` (R83). -/
def lastAccess (a : Word) (n : Width) : Option (Word × Width) := some (BitVec.ofNat 32 (a.toNat - a.toNat % n.bytes), n)

/-- The first address of a block transfer of `n` registers (43_block_transfer.md R250 and its table). -/
def blockStart (base : Word) (p u : Bool) (n : Nat) : Word :=
  match p, u with
  | false, true => base
  | true, true => base + 4#32
  | false, false => base - BitVec.ofNat 32 (4 * n) + 4#32
  | true, false => base - BitVec.ofNat 32 (4 * n)

/-- The written-back base of a block transfer (R250). -/
def blockFinal (base : Word) (u : Bool) (n : Nat) : Word :=
  if u then base + BitVec.ofNat 32 (4 * n) else base - BitVec.ofNat 32 (4 * n)

/-- The value the k-th register of an STM list stores (R252). -/
def stmValue (sbit w : Bool) (rn : Reg) (base final : Word) (s : State) (i : Reg) (k : Nat) : Word :=
  if i = 15#4 then s.pc + 12#32
  else if sbit then s.xUsr i
  else if i = rn then (if k = 0 then base else if w then final else base)
  else s.x i

/-! ## Multiplies -/

/-- The four long multiplies (49_unlisted_families.md R403 to R406). -/
inductive LongMul where
  | umull | umlal | smull | smlal
  deriving DecidableEq, Repr

/-- The instruction of a long multiply. -/
def LongMul.instr (k : LongMul) (c : Cond) (sf : Bool) (rdHi rdLo rs rm : Reg) : Instr :=
  match k with
  | .umull => .umull c sf rdHi rdLo rs rm
  | .umlal => .umlal c sf rdHi rdLo rs rm
  | .smull => .smull c sf rdHi rdLo rs rm
  | .smlal => .smlal c sf rdHi rdLo rs rm

/-- The 64-bit result modulo 2^64, computed in the integers. -/
def LongMul.result (k : LongMul) (x y hi lo : Word) : BitVec 64 :=
  match k with
  | .umull => BitVec.ofNat 64 (x.toNat * y.toNat)
  | .umlal => BitVec.ofNat 64 (x.toNat * y.toNat + (hi.toNat * 2 ^ 32 + lo.toNat))
  | .smull => BitVec.ofInt 64 (x.toInt * y.toInt)
  | .smlal => BitVec.ofInt 64 (x.toInt * y.toInt + (hi.toNat * 2 ^ 32 + lo.toNat : Nat))

/-! ## Traps -/

/-- The four always-unrecognized rows of 32-bit mode (46_swi_undefined.md R296). -/
inductive ArmUndef where
  | arch | copTransfer | copOp | doubleword
  deriving DecidableEq, Repr

/-- The eight always-unrecognized rows of compressed mode. -/
inductive ThumbUndef where
  | bxH1 | b1 | b2 | b6 | b8 | be | cond14 | blxSuffix
  deriving DecidableEq, Repr

/-- The row's instruction. -/
def ArmUndef.instr (k : ArmUndef) (c : Cond) : Instr :=
  match k with
  | .arch => .undefArch c
  | .copTransfer => .undefCopTransfer c
  | .copOp => .undefCopOp c
  | .doubleword => .undefDoubleword c

/-- The row's instruction. -/
def ThumbUndef.instr : ThumbUndef → Instr
  | .bxH1 => .tUndefBxH1
  | .b1 => .tUndefB1
  | .b2 => .tUndefB2
  | .b6 => .tUndefB6
  | .b8 => .tUndefB8
  | .be => .tUndefBe
  | .cond14 => .tUndefCond14
  | .blxSuffix => .tUndefBlxSuffix

/-- What an exception entry into mode `m` at vector `vec` with return address `ret` leaves (60_exceptions.md R500): the old status
word in the mode's SPSR, the return address in its r14, T clear, I set, N, Z, C, V and F as they were, every other register, every
other SPSR, memory and devices unchanged. -/
def Entered (m : Mode) (vec ret : Word) (s t : State) : Prop :=
  t.cpsr = { s.cpsr with mode := m, t := false, i := true } ∧
  t.pc = vec ∧
  spsrOf m t.spsr = some (psrOfCpsr s.cpsr) ∧
  (∀ m', m' ≠ m → spsrOf m' t.spsr = spsrOf m' s.spsr) ∧
  t.xIn m 14#4 = ret ∧
  keepsRegs [physIndex m 14#4] s t ∧
  t.mem = s.mem ∧ t.dev = s.dev ∧ t.cfg = s.cfg ∧ t.inputs = s.inputs

/-! ## Compressed mode -/

/-- The compressed-mode instructions that write one low register and flags (47_thumb_alu.md R303 to R328). -/
inductive ThumbAlu where
  | lslImm (rd rs : LowReg) (off5 : BitVec 5)
  | lsrImm (rd rs : LowReg) (off5 : BitVec 5)
  | asrImm (rd rs : LowReg) (off5 : BitVec 5)
  | addReg (rd rs rn : LowReg)
  | subReg (rd rs rn : LowReg)
  | addImm3 (rd rs : LowReg) (imm3 : BitVec 3)
  | subImm3 (rd rs : LowReg) (imm3 : BitVec 3)
  | movImm8 (rd : LowReg) (imm8 : BitVec 8)
  | addImm8 (rd : LowReg) (imm8 : BitVec 8)
  | subImm8 (rd : LowReg) (imm8 : BitVec 8)
  | and (rd rs : LowReg)
  | eor (rd rs : LowReg)
  | lsl (rd rs : LowReg)
  | lsr (rd rs : LowReg)
  | asr (rd rs : LowReg)
  | adc (rd rs : LowReg)
  | sbc (rd rs : LowReg)
  | ror (rd rs : LowReg)
  | neg (rd rs : LowReg)
  | orr (rd rs : LowReg)
  | mul (rd rs : LowReg)
  | bic (rd rs : LowReg)
  | mvn (rd rs : LowReg)
  deriving DecidableEq, Repr

/-- The instruction of a shape. -/
def ThumbAlu.instr : ThumbAlu → Instr
  | .lslImm rd rs off5 => .tLslImm rd rs off5
  | .lsrImm rd rs off5 => .tLsrImm rd rs off5
  | .asrImm rd rs off5 => .tAsrImm rd rs off5
  | .addReg rd rs rn => .tAddReg rd rs rn
  | .subReg rd rs rn => .tSubReg rd rs rn
  | .addImm3 rd rs imm3 => .tAddImm3 rd rs imm3
  | .subImm3 rd rs imm3 => .tSubImm3 rd rs imm3
  | .movImm8 rd imm8 => .tMovImm8 rd imm8
  | .addImm8 rd imm8 => .tAddImm8 rd imm8
  | .subImm8 rd imm8 => .tSubImm8 rd imm8
  | .and rd rs => .tAnd rd rs
  | .eor rd rs => .tEor rd rs
  | .lsl rd rs => .tLsl rd rs
  | .lsr rd rs => .tLsr rd rs
  | .asr rd rs => .tAsr rd rs
  | .adc rd rs => .tAdc rd rs
  | .sbc rd rs => .tSbc rd rs
  | .ror rd rs => .tRor rd rs
  | .neg rd rs => .tNeg rd rs
  | .orr rd rs => .tOrr rd rs
  | .mul rd rs => .tMul rd rs
  | .bic rd rs => .tBic rd rs
  | .mvn rd rs => .tMvn rd rs

/-- The destination of a shape. -/
def ThumbAlu.dest : ThumbAlu → LowReg
  | .lslImm rd _ _ | .lsrImm rd _ _ | .asrImm rd _ _ | .addReg rd _ _ | .subReg rd _ _ | .addImm3 rd _ _ | .subImm3 rd _ _
  | .movImm8 rd _ | .addImm8 rd _ | .subImm8 rd _ | .and rd _ | .eor rd _ | .lsl rd _ | .lsr rd _ | .asr rd _ | .adc rd _
  | .sbc rd _ | .ror rd _ | .neg rd _ | .orr rd _ | .mul rd _ | .bic rd _ | .mvn rd _ => rd

/-- The value of a low register. -/
def low (r : LowReg) (s : State) : Word := s.x (r.setWidth 4)

/-- A register-specified shift amount: bits 7:0. -/
def amount (r : LowReg) (s : State) : BitVec 8 := (low r s).setWidth 8

/-- The outcome of a shape; a move or logical operation leaves C as it is. -/
def ThumbAlu.run (k : ThumbAlu) (s : State) : Outcome :=
  let shifted := fun (r : Word × Bool) => logicOf r.1 r.2
  let logic := fun (r : Word) => logicOf r s.cpsr.c
  match k with
  | .lslImm _ rs off5 => shifted (shiftImm .lsl off5 (low rs s) s.cpsr.c)
  | .lsrImm _ rs off5 => shifted (shiftImm .lsr off5 (low rs s) s.cpsr.c)
  | .asrImm _ rs off5 => shifted (shiftImm .asr off5 (low rs s) s.cpsr.c)
  | .addReg _ rs rn => sumOf (low rs s) (low rn s) false
  | .subReg _ rs rn => differenceOf (low rs s) (low rn s) true
  | .addImm3 _ rs imm3 => sumOf (low rs s) (imm3.setWidth 32) false
  | .subImm3 _ rs imm3 => differenceOf (low rs s) (imm3.setWidth 32) true
  | .movImm8 _ imm8 => logic (imm8.setWidth 32)
  | .addImm8 rd imm8 => sumOf (low rd s) (imm8.setWidth 32) false
  | .subImm8 rd imm8 => differenceOf (low rd s) (imm8.setWidth 32) true
  | .and rd rs => logic (low rd s &&& low rs s)
  | .eor rd rs => logic (low rd s ^^^ low rs s)
  | .lsl rd rs => shifted (shiftReg .lsl (amount rs s) (low rd s) s.cpsr.c)
  | .lsr rd rs => shifted (shiftReg .lsr (amount rs s) (low rd s) s.cpsr.c)
  | .asr rd rs => shifted (shiftReg .asr (amount rs s) (low rd s) s.cpsr.c)
  | .adc rd rs => sumOf (low rd s) (low rs s) s.cpsr.c
  | .sbc rd rs => differenceOf (low rd s) (low rs s) s.cpsr.c
  | .ror rd rs => shifted (shiftReg .ror (amount rs s) (low rd s) s.cpsr.c)
  | .neg _ rs => differenceOf 0#32 (low rs s) true
  | .orr rd rs => logic (low rd s ||| low rs s)
  | .mul rd rs => logic (BitVec.ofNat 32 ((low rd s).toNat * (low rs s).toNat))
  | .bic rd rs => logic (low rd s &&& ~~~(low rs s))
  | .mvn _ rs => logic (~~~(low rs s))

/-- The compressed-mode comparisons (R311, R322, R324, R325, R330). -/
inductive ThumbCmp where
  | cmpImm8 (rd : LowReg) (imm8 : BitVec 8)
  | tst (rd rs : LowReg)
  | cmp (rd rs : LowReg)
  | cmn (rd rs : LowReg)
  | cmpHi (rd rs : Reg)
  deriving DecidableEq, Repr

/-- The instruction of a comparison. -/
def ThumbCmp.instr : ThumbCmp → Instr
  | .cmpImm8 rd imm8 => .tCmpImm8 rd imm8
  | .tst rd rs => .tTst rd rs
  | .cmp rd rs => .tCmp rd rs
  | .cmn rd rs => .tCmn rd rs
  | .cmpHi rd rs => .tCmpHi rd rs

/-- The program counter as compressed mode reads it: A + 4, the lead of the configuration (47_thumb_alu.md R301). -/
def thumbLead (s : State) : Word := s.pc + s.cfg.thumbPcAhead

/-- A register operand of a high-register instruction: register 15 reads A + 4 (R301). -/
def thumbReg (i : Reg) (s : State) : Word := if i = 15#4 then thumbLead s else s.x i

/-- The outcome of a comparison. -/
def ThumbCmp.run (k : ThumbCmp) (s : State) : Outcome :=
  match k with
  | .cmpImm8 rd imm8 => differenceOf (low rd s) (imm8.setWidth 32) true
  | .tst rd rs => logicOf (low rd s &&& low rs s) s.cpsr.c
  | .cmp rd rs => differenceOf (low rd s) (low rs s) true
  | .cmn rd rs => sumOf (low rd s) (low rs s) false
  | .cmpHi rd rs => differenceOf (thumbReg rd s) (thumbReg rs s) true

/-- The ten compressed-mode loads (48_thumb_mem_branch.md, 49_unlisted_families.md section 6). -/
inductive ThumbLoad where
  | pc (off : BitVec 10)
  | reg (rb ro : LowReg)
  | byteReg (rb ro : LowReg)
  | signedByteReg (rb ro : LowReg)
  | halfReg (rb ro : LowReg)
  | signedHalfReg (rb ro : LowReg)
  | imm (rb : LowReg) (off : BitVec 7)
  | byteImm (rb : LowReg) (off : BitVec 5)
  | halfImm (rb : LowReg) (off : BitVec 6)
  | sp (off : BitVec 10)
  deriving DecidableEq, Repr

/-- The instruction of a load. -/
def ThumbLoad.instr (k : ThumbLoad) (rd : LowReg) : Instr :=
  match k with
  | .pc off => .tLdrPc rd off
  | .reg rb ro => .tLdrReg rd rb ro
  | .byteReg rb ro => .tLdrbReg rd rb ro
  | .signedByteReg rb ro => .tLdsbReg rd rb ro
  | .halfReg rb ro => .tLdrhReg rd rb ro
  | .signedHalfReg rb ro => .tLdshReg rd rb ro
  | .imm rb off => .tLdrImm rd rb off
  | .byteImm rb off => .tLdrbImm rd rb off
  | .halfImm rb off => .tLdrhImm rd rb off
  | .sp off => .tLdrSp rd off

/-- The program counter as the PC-relative load and ADD Rd, PC read it: A + 4 with bits 1:0 cleared (47_thumb_alu.md R301). -/
def thumbPcBase (s : State) : Word := thumbLead s &&& 0xFFFFFFFC#32

/-- The address of a load. -/
def ThumbLoad.address (k : ThumbLoad) (s : State) : Word :=
  match k with
  | .pc off => thumbPcBase s + off.setWidth 32
  | .reg rb ro | .byteReg rb ro | .signedByteReg rb ro | .halfReg rb ro | .signedHalfReg rb ro => low rb s + low ro s
  | .imm rb off => low rb s + off.setWidth 32
  | .byteImm rb off => low rb s + off.setWidth 32
  | .halfImm rb off => low rb s + off.setWidth 32
  | .sp off => s.x 13#4 + off.setWidth 32

/-- The value loaded: the rules of the 32-bit-mode load of the same kind. -/
def ThumbLoad.value (k : ThumbLoad) (a : Word) (s : State) : Word :=
  match k with
  | .pc _ | .reg _ _ | .imm _ _ | .sp _ => (LoadForm.wordImm 0#12).value a s
  | .byteReg _ _ | .byteImm _ _ => (LoadForm.byteImm 0#12).value a s
  | .halfReg _ _ | .halfImm _ _ => (LoadForm.halfImm 0#8).value a s
  | .signedByteReg _ _ => (LoadForm.signedByteImm 0#8).value a s
  | .signedHalfReg _ _ => (LoadForm.signedHalfImm 0#8).value a s

/-- The width of a load's access. -/
def ThumbLoad.width : ThumbLoad → Width
  | .pc _ | .reg _ _ | .imm _ _ | .sp _ => .word
  | .byteReg _ _ | .byteImm _ _ | .signedByteReg _ _ => .byte
  | .halfReg _ _ | .halfImm _ _ | .signedHalfReg _ _ => .half

/-- The seven compressed-mode single stores. -/
inductive ThumbStore where
  | reg (rb ro : LowReg)
  | byteReg (rb ro : LowReg)
  | halfReg (rb ro : LowReg)
  | imm (rb : LowReg) (off : BitVec 7)
  | byteImm (rb : LowReg) (off : BitVec 5)
  | halfImm (rb : LowReg) (off : BitVec 6)
  | sp (off : BitVec 10)
  deriving DecidableEq, Repr

/-- The instruction of a store. -/
def ThumbStore.instr (k : ThumbStore) (rd : LowReg) : Instr :=
  match k with
  | .reg rb ro => .tStrReg rd rb ro
  | .byteReg rb ro => .tStrbReg rd rb ro
  | .halfReg rb ro => .tStrhReg rd rb ro
  | .imm rb off => .tStrImm rd rb off
  | .byteImm rb off => .tStrbImm rd rb off
  | .halfImm rb off => .tStrhImm rd rb off
  | .sp off => .tStrSp rd off

/-- The address of a store. -/
def ThumbStore.address (k : ThumbStore) (s : State) : Word :=
  match k with
  | .reg rb ro | .byteReg rb ro | .halfReg rb ro => low rb s + low ro s
  | .imm rb off => low rb s + off.setWidth 32
  | .byteImm rb off => low rb s + off.setWidth 32
  | .halfImm rb off => low rb s + off.setWidth 32
  | .sp off => s.x 13#4 + off.setWidth 32

/-- The width of a store. -/
def ThumbStore.width : ThumbStore → Width
  | .reg _ _ | .imm _ _ | .sp _ => .word
  | .byteReg _ _ | .byteImm _ _ => .byte
  | .halfReg _ _ | .halfImm _ _ => .half

/-- The fourteen conditional branches: the instruction a condition names, none for 1110 and 1111 (30_encoding.md R127, T16). -/
def thumbBranch (c : Cond) (off : BitVec 9) : Option Instr :=
  match c with
  | .eq => some (.tBeq off)
  | .ne => some (.tBne off)
  | .cs => some (.tBcs off)
  | .cc => some (.tBcc off)
  | .mi => some (.tBmi off)
  | .pl => some (.tBpl off)
  | .vs => some (.tBvs off)
  | .vc => some (.tBvc off)
  | .hi => some (.tBhi off)
  | .ls => some (.tBls off)
  | .ge => some (.tBge off)
  | .lt => some (.tBlt off)
  | .gt => some (.tBgt off)
  | .le => some (.tBle off)
  | .al | .nv => none

/-! ## What a store and a block of stores leave -/

/-- The bytes of a value stand, lowest first, under successive keys. -/
def bytesAt (mem : List Host.Cell) (key : Nat) (v : Word) (n : Width) : Prop :=
  ∀ j : Nat, j < n.bytes → memGet mem (key + j) = (v >>> (8 * j)).setWidth 8

/-- The region of the aligned unit of `n` bytes at an address (20_memory.md R71, R80). -/
def unitRegion (cfg : Cfg) (a : Word) (n : Width) : Region := regionOf cfg (alignDown a n)

/-- The unit lies in a byte store. -/
def inStore (cfg : Cfg) (a : Word) (n : Width) : Prop := (unitRegion cfg a n).kind = .byteStore

/-- The unit lies in the register window. -/
def inWindow (cfg : Cfg) (a : Word) (n : Width) : Prop := (unitRegion cfg a n).kind = .window

/-- The unit lies in a byte store or an image: a read there is no draw and no device access. -/
def plain (cfg : Cfg) (a : Word) (n : Width) : Prop := (unitRegion cfg a n).kind.isBacked = true

/-- The key of the unit's first byte. -/
def unitKey (cfg : Cfg) (a : Word) (n : Width) : Nat := byteKey cfg (alignDown a n)

/-- Two units have no byte in common. -/
def apart (cfg : Cfg) (a b : Word) (n : Width) : Prop :=
  unitKey cfg a n + n.bytes ≤ unitKey cfg b n ∨ unitKey cfg b n + n.bytes ≤ unitKey cfg a n

/-- Of `n` units stored one after another, the `k`-th is not overwritten by a later one. Units of one block have this wherever the
block is no longer than the store, as in every store of the default table. -/
def lasts (cfg : Cfg) (addr : Nat → Word) (n k : Nat) (w : Width) : Prop :=
  ∀ j, k < j → j < n → inStore cfg (addr j) w → apart cfg (addr j) (addr k) w

/-- The addresses of the words of a block. -/
def wordAt (start : Word) (k : Nat) : Word := start + BitVec.ofNat 32 (4 * k)

/-- What an instruction's stores (address, width, value) do to memory, to the devices and to the host's outputs: what the writes
themselves do, in this order (20_memory.md R81), which with no store in the register window is nothing to a device. The configuration
and the host's calls are unchanged. -/
def storesReach (ws : List (Word × Width × Word)) (s t : State) : Prop :=
  let u := ws.foldl (fun u w => memWrite w.1 w.2.1 w.2.2 u) s
  t.mem = u.mem ∧ t.dev = u.dev ∧ t.outputs = u.outputs ∧ t.cfg = s.cfg ∧ t.inputs = s.inputs ∧
  ((∀ w ∈ ws, ¬ inWindow s.cfg w.1 w.2.1) → t.dev = s.dev ∧ t.outputs = s.outputs)

/-- The stores of a block of registers, lowest first from an address, with the value of the `k`-th. -/
def blockStores (regs : List Reg) (start : Word) (value : Reg → Nat → Word) : List (Word × Width × Word) :=
  regs.zipIdx.map (fun p => (wordAt start p.2, .word, value p.1 p.2))

/-- The configuration lets an instruction run: it is of a listed family, or `cfg.unlisted` is `armv4t`
(49_unlisted_families.md R400). -/
def admits (cfg : Cfg) (i : Instr) : Prop := Instr.unlisted i = true → cfg.unlisted = .armv4t

/-! ## Decoding -/

/-- The formats of 32-bit mode as the procedure of 30_encoding.md R125 tells them apart. -/
inductive ArmFormat where
  | a1 | a2 | a3 | a4 | a5 | a6 | a7 | a8 | a9 | a10 | a11 | a12 | a14 | a15 | a16 | a17 | a18 | unrecognized
  deriving DecidableEq, Repr

/-- The procedure of R125, test by test. -/
def armFormatOf (w : Word) : ArmFormat :=
  if w.extractLsb' 4 24 = 0x12FFF1#24 then .a7
  else if w.extractLsb' 22 6 = 0b000000#6 ∧ w.extractLsb' 4 4 = 0b1001#4 then .a14
  else if w.extractLsb' 23 5 = 0b00001#5 ∧ w.extractLsb' 4 4 = 0b1001#4 then .a15
  else if w.extractLsb' 23 5 = 0b00010#5 ∧ w.extractLsb' 20 2 = 0#2 ∧ w.extractLsb' 4 8 = 0b00001001#8 then .a16
  else if w.extractLsb' 25 3 = 0#3 ∧ w.getLsbD 7 = true ∧ w.getLsbD 4 = true ∧ w.extractLsb' 5 2 ≠ 0#2 ∧
      (w.getLsbD 20 = true ∨ w.extractLsb' 5 2 = 0b01#2) then
    if w.getLsbD 22 then .a18 else .a17
  else if w.extractLsb' 23 5 = 0b00010#5 ∧ w.extractLsb' 16 6 = 0b001111#6 ∧ w.extractLsb' 0 12 = 0#12 then .a4
  else if w.extractLsb' 23 5 = 0b00010#5 ∧ w.extractLsb' 20 2 = 0b10#2 ∧ w.extractLsb' 12 4 = 0b1111#4 ∧
      w.extractLsb' 4 8 = 0#8 then .a5
  else if w.extractLsb' 23 5 = 0b00110#5 ∧ w.extractLsb' 20 2 = 0b10#2 ∧ w.extractLsb' 12 4 = 0b1111#4 then .a6
  else if w.extractLsb' 26 2 = 0#2 ∧ ¬ (w.extractLsb' 23 2 = 0b10#2 ∧ w.getLsbD 20 = false) ∧
      (w.getLsbD 25 = true ∨ w.getLsbD 4 = false ∨ w.getLsbD 7 = false) then
    if w.getLsbD 25 then .a1 else if w.getLsbD 4 then .a3 else .a2
  else if w.extractLsb' 26 2 = 0b01#2 ∧ ¬ (w.getLsbD 25 = true ∧ w.getLsbD 4 = true) then
    if w.getLsbD 25 then .a9 else .a8
  else if w.extractLsb' 25 3 = 0b100#3 then .a10
  else if w.extractLsb' 25 3 = 0b101#3 then .a11
  else if w.extractLsb' 24 4 = 0b1111#4 then .a12
  else .unrecognized

/-- The formats of compressed mode as the procedure of 30_encoding.md R129 tells them apart. -/
inductive ThumbFormat where
  | t1 | t2 | t3 | t4 | t5 | t6 | t7 | t8 | t9 | t10 | t11 | t12 | t13 | t14 | t15 | t16 | t17 | t18 | t19 | unrecognized
  deriving DecidableEq, Repr

/-- The procedure of R129, test by test; BX with h[7] = 1 is unrecognized. -/
def thumbFormatOf (h : Half) : ThumbFormat :=
  if h.extractLsb' 11 5 = 0b00011#5 then .t2
  else if h.extractLsb' 13 3 = 0b000#3 then .t1
  else if h.extractLsb' 13 3 = 0b001#3 then .t3
  else if h.extractLsb' 10 6 = 0b010000#6 then .t4
  else if h.extractLsb' 10 6 = 0b010001#6 then
    if h.extractLsb' 8 2 = 0b11#2 ∧ h.getLsbD 7 = true then .unrecognized else .t5
  else if h.extractLsb' 11 5 = 0b01001#5 then .t6
  else if h.extractLsb' 12 4 = 0b0101#4 then if h.getLsbD 9 then .t8 else .t7
  else if h.extractLsb' 13 3 = 0b011#3 then .t9
  else if h.extractLsb' 12 4 = 0b1000#4 then .t10
  else if h.extractLsb' 12 4 = 0b1001#4 then .t11
  else if h.extractLsb' 12 4 = 0b1010#4 then .t12
  else if h.extractLsb' 8 8 = 0b10110000#8 then .t13
  else if h.extractLsb' 12 4 = 0b1011#4 ∧ h.extractLsb' 9 2 = 0b10#2 then .t14
  else if h.extractLsb' 12 4 = 0b1100#4 then .t15
  else if h.extractLsb' 8 8 = 0b11011111#8 then .t17
  else if h.extractLsb' 12 4 = 0b1101#4 ∧ h.extractLsb' 8 4 ≠ 0b1110#4 then .t16
  else if h.extractLsb' 11 5 = 0b11100#5 then .t18
  else if h.extractLsb' 12 4 = 0b1111#4 then .t19
  else .unrecognized

/-- The format of an instruction of 32-bit mode (30_encoding.md R122, R124); none for one of compressed mode. -/
def armFormat (i : Instr) : Option ArmFormat :=
  match i with
  | .andImm _ _ _ _ _ _ => some .a1
  | .andShImm _ _ _ _ _ _ _ => some .a2
  | .andShReg _ _ _ _ _ _ _ => some .a3
  | .eorImm _ _ _ _ _ _ => some .a1
  | .eorShImm _ _ _ _ _ _ _ => some .a2
  | .eorShReg _ _ _ _ _ _ _ => some .a3
  | .subImm _ _ _ _ _ _ => some .a1
  | .subShImm _ _ _ _ _ _ _ => some .a2
  | .subShReg _ _ _ _ _ _ _ => some .a3
  | .rsbImm _ _ _ _ _ _ => some .a1
  | .rsbShImm _ _ _ _ _ _ _ => some .a2
  | .rsbShReg _ _ _ _ _ _ _ => some .a3
  | .addImm _ _ _ _ _ _ => some .a1
  | .addShImm _ _ _ _ _ _ _ => some .a2
  | .addShReg _ _ _ _ _ _ _ => some .a3
  | .adcImm _ _ _ _ _ _ => some .a1
  | .adcShImm _ _ _ _ _ _ _ => some .a2
  | .adcShReg _ _ _ _ _ _ _ => some .a3
  | .sbcImm _ _ _ _ _ _ => some .a1
  | .sbcShImm _ _ _ _ _ _ _ => some .a2
  | .sbcShReg _ _ _ _ _ _ _ => some .a3
  | .rscImm _ _ _ _ _ _ => some .a1
  | .rscShImm _ _ _ _ _ _ _ => some .a2
  | .rscShReg _ _ _ _ _ _ _ => some .a3
  | .tstImm _ _ _ _ => some .a1
  | .tstShImm _ _ _ _ _ => some .a2
  | .tstShReg _ _ _ _ _ => some .a3
  | .teqImm _ _ _ _ => some .a1
  | .teqShImm _ _ _ _ _ => some .a2
  | .teqShReg _ _ _ _ _ => some .a3
  | .cmpImm _ _ _ _ => some .a1
  | .cmpShImm _ _ _ _ _ => some .a2
  | .cmpShReg _ _ _ _ _ => some .a3
  | .cmnImm _ _ _ _ => some .a1
  | .cmnShImm _ _ _ _ _ => some .a2
  | .cmnShReg _ _ _ _ _ => some .a3
  | .orrImm _ _ _ _ _ _ => some .a1
  | .orrShImm _ _ _ _ _ _ _ => some .a2
  | .orrShReg _ _ _ _ _ _ _ => some .a3
  | .movImm _ _ _ _ _ => some .a1
  | .movShImm _ _ _ _ _ _ => some .a2
  | .movShReg _ _ _ _ _ _ => some .a3
  | .bicImm _ _ _ _ _ _ => some .a1
  | .bicShImm _ _ _ _ _ _ _ => some .a2
  | .bicShReg _ _ _ _ _ _ _ => some .a3
  | .mvnImm _ _ _ _ _ => some .a1
  | .mvnShImm _ _ _ _ _ _ => some .a2
  | .mvnShReg _ _ _ _ _ _ => some .a3
  | .mrs _ _ _ => some .a4
  | .msrReg _ _ _ _ => some .a5
  | .msrImm _ _ _ _ _ => some .a6
  | .bx _ _ => some .a7
  | .ldrImm _ _ _ _ _ _ _ => some .a8
  | .ldrReg _ _ _ _ _ _ _ _ _ => some .a9
  | .strImm _ _ _ _ _ _ _ => some .a8
  | .strReg _ _ _ _ _ _ _ _ _ => some .a9
  | .ldrbImm _ _ _ _ _ _ _ => some .a8
  | .ldrbReg _ _ _ _ _ _ _ _ _ => some .a9
  | .strbImm _ _ _ _ _ _ _ => some .a8
  | .strbReg _ _ _ _ _ _ _ _ _ => some .a9
  | .undefArch _ => some .unrecognized
  | .ldm _ _ _ _ _ _ _ => some .a10
  | .stm _ _ _ _ _ _ _ => some .a10
  | .b _ _ => some .a11
  | .bl _ _ => some .a11
  | .undefCopTransfer _ => some .unrecognized
  | .undefCopOp _ => some .unrecognized
  | .swi _ _ => some .a12
  | .mul _ _ _ _ _ => some .a14
  | .mla _ _ _ _ _ _ => some .a14
  | .umull _ _ _ _ _ _ => some .a15
  | .umlal _ _ _ _ _ _ => some .a15
  | .smull _ _ _ _ _ _ => some .a15
  | .smlal _ _ _ _ _ _ => some .a15
  | .swp _ _ _ _ => some .a16
  | .swpb _ _ _ _ => some .a16
  | .strhReg _ _ _ _ _ _ _ => some .a17
  | .strhImm _ _ _ _ _ _ _ => some .a18
  | .ldrhReg _ _ _ _ _ _ _ => some .a17
  | .ldrhImm _ _ _ _ _ _ _ => some .a18
  | .ldrsbReg _ _ _ _ _ _ _ => some .a17
  | .ldrsbImm _ _ _ _ _ _ _ => some .a18
  | .ldrshReg _ _ _ _ _ _ _ => some .a17
  | .ldrshImm _ _ _ _ _ _ _ => some .a18
  | .undefDoubleword _ => some .unrecognized
  | .tLslImm _ _ _ => none
  | .tLsrImm _ _ _ => none
  | .tAsrImm _ _ _ => none
  | .tAddReg _ _ _ => none
  | .tSubReg _ _ _ => none
  | .tAddImm3 _ _ _ => none
  | .tSubImm3 _ _ _ => none
  | .tMovImm8 _ _ => none
  | .tCmpImm8 _ _ => none
  | .tAddImm8 _ _ => none
  | .tSubImm8 _ _ => none
  | .tAnd _ _ => none
  | .tEor _ _ => none
  | .tLsl _ _ => none
  | .tLsr _ _ => none
  | .tAsr _ _ => none
  | .tAdc _ _ => none
  | .tSbc _ _ => none
  | .tRor _ _ => none
  | .tTst _ _ => none
  | .tNeg _ _ => none
  | .tCmp _ _ => none
  | .tCmn _ _ => none
  | .tOrr _ _ => none
  | .tMul _ _ => none
  | .tBic _ _ => none
  | .tMvn _ _ => none
  | .tAddHi _ _ => none
  | .tCmpHi _ _ => none
  | .tMovHi _ _ => none
  | .tBx _ => none
  | .tUndefBxH1 => none
  | .tLdrPc _ _ => none
  | .tStrReg _ _ _ => none
  | .tStrbReg _ _ _ => none
  | .tLdrReg _ _ _ => none
  | .tLdrbReg _ _ _ => none
  | .tStrhReg _ _ _ => none
  | .tLdsbReg _ _ _ => none
  | .tLdrhReg _ _ _ => none
  | .tLdshReg _ _ _ => none
  | .tStrImm _ _ _ => none
  | .tLdrImm _ _ _ => none
  | .tStrbImm _ _ _ => none
  | .tLdrbImm _ _ _ => none
  | .tStrhImm _ _ _ => none
  | .tLdrhImm _ _ _ => none
  | .tStrSp _ _ => none
  | .tLdrSp _ _ => none
  | .tAddPc _ _ => none
  | .tAddSp _ _ => none
  | .tAddSpPos _ => none
  | .tAddSpNeg _ => none
  | .tUndefB1 => none
  | .tUndefB2 => none
  | .tPush _ _ => none
  | .tUndefB6 => none
  | .tUndefB8 => none
  | .tPop _ _ => none
  | .tUndefBe => none
  | .tStmia _ _ => none
  | .tLdmia _ _ => none
  | .tBeq _ => none
  | .tBne _ => none
  | .tBcs _ => none
  | .tBcc _ => none
  | .tBmi _ => none
  | .tBpl _ => none
  | .tBvs _ => none
  | .tBvc _ => none
  | .tBhi _ => none
  | .tBls _ => none
  | .tBge _ => none
  | .tBlt _ => none
  | .tBgt _ => none
  | .tBle _ => none
  | .tUndefCond14 => none
  | .tSwi _ => none
  | .tB _ => none
  | .tUndefBlxSuffix => none
  | .tBlHi _ => none
  | .tBlLo _ => none

/-- The format of an instruction of compressed mode (R127); none for one of 32-bit mode. -/
def thumbFormat (i : Instr) : Option ThumbFormat :=
  match i with
  | .tLslImm _ _ _ => some .t1
  | .tLsrImm _ _ _ => some .t1
  | .tAsrImm _ _ _ => some .t1
  | .tAddReg _ _ _ => some .t2
  | .tSubReg _ _ _ => some .t2
  | .tAddImm3 _ _ _ => some .t2
  | .tSubImm3 _ _ _ => some .t2
  | .tMovImm8 _ _ => some .t3
  | .tCmpImm8 _ _ => some .t3
  | .tAddImm8 _ _ => some .t3
  | .tSubImm8 _ _ => some .t3
  | .tAnd _ _ => some .t4
  | .tEor _ _ => some .t4
  | .tLsl _ _ => some .t4
  | .tLsr _ _ => some .t4
  | .tAsr _ _ => some .t4
  | .tAdc _ _ => some .t4
  | .tSbc _ _ => some .t4
  | .tRor _ _ => some .t4
  | .tTst _ _ => some .t4
  | .tNeg _ _ => some .t4
  | .tCmp _ _ => some .t4
  | .tCmn _ _ => some .t4
  | .tOrr _ _ => some .t4
  | .tMul _ _ => some .t4
  | .tBic _ _ => some .t4
  | .tMvn _ _ => some .t4
  | .tAddHi _ _ => some .t5
  | .tCmpHi _ _ => some .t5
  | .tMovHi _ _ => some .t5
  | .tBx _ => some .t5
  | .tUndefBxH1 => some .unrecognized
  | .tLdrPc _ _ => some .t6
  | .tStrReg _ _ _ => some .t7
  | .tStrbReg _ _ _ => some .t7
  | .tLdrReg _ _ _ => some .t7
  | .tLdrbReg _ _ _ => some .t7
  | .tStrhReg _ _ _ => some .t8
  | .tLdsbReg _ _ _ => some .t8
  | .tLdrhReg _ _ _ => some .t8
  | .tLdshReg _ _ _ => some .t8
  | .tStrImm _ _ _ => some .t9
  | .tLdrImm _ _ _ => some .t9
  | .tStrbImm _ _ _ => some .t9
  | .tLdrbImm _ _ _ => some .t9
  | .tStrhImm _ _ _ => some .t10
  | .tLdrhImm _ _ _ => some .t10
  | .tStrSp _ _ => some .t11
  | .tLdrSp _ _ => some .t11
  | .tAddPc _ _ => some .t12
  | .tAddSp _ _ => some .t12
  | .tAddSpPos _ => some .t13
  | .tAddSpNeg _ => some .t13
  | .tUndefB1 => some .unrecognized
  | .tUndefB2 => some .unrecognized
  | .tPush _ _ => some .t14
  | .tUndefB6 => some .unrecognized
  | .tUndefB8 => some .unrecognized
  | .tPop _ _ => some .t14
  | .tUndefBe => some .unrecognized
  | .tStmia _ _ => some .t15
  | .tLdmia _ _ => some .t15
  | .tBeq _ => some .t16
  | .tBne _ => some .t16
  | .tBcs _ => some .t16
  | .tBcc _ => some .t16
  | .tBmi _ => some .t16
  | .tBpl _ => some .t16
  | .tBvs _ => some .t16
  | .tBvc _ => some .t16
  | .tBhi _ => some .t16
  | .tBls _ => some .t16
  | .tBge _ => some .t16
  | .tBlt _ => some .t16
  | .tBgt _ => some .t16
  | .tBle _ => some .t16
  | .tUndefCond14 => some .unrecognized
  | .tSwi _ => some .t17
  | .tB _ => some .t18
  | .tUndefBlxSuffix => some .unrecognized
  | .tBlHi _ => some .t19
  | .tBlLo _ => some .t19
  | .andImm _ _ _ _ _ _ => none
  | .andShImm _ _ _ _ _ _ _ => none
  | .andShReg _ _ _ _ _ _ _ => none
  | .eorImm _ _ _ _ _ _ => none
  | .eorShImm _ _ _ _ _ _ _ => none
  | .eorShReg _ _ _ _ _ _ _ => none
  | .subImm _ _ _ _ _ _ => none
  | .subShImm _ _ _ _ _ _ _ => none
  | .subShReg _ _ _ _ _ _ _ => none
  | .rsbImm _ _ _ _ _ _ => none
  | .rsbShImm _ _ _ _ _ _ _ => none
  | .rsbShReg _ _ _ _ _ _ _ => none
  | .addImm _ _ _ _ _ _ => none
  | .addShImm _ _ _ _ _ _ _ => none
  | .addShReg _ _ _ _ _ _ _ => none
  | .adcImm _ _ _ _ _ _ => none
  | .adcShImm _ _ _ _ _ _ _ => none
  | .adcShReg _ _ _ _ _ _ _ => none
  | .sbcImm _ _ _ _ _ _ => none
  | .sbcShImm _ _ _ _ _ _ _ => none
  | .sbcShReg _ _ _ _ _ _ _ => none
  | .rscImm _ _ _ _ _ _ => none
  | .rscShImm _ _ _ _ _ _ _ => none
  | .rscShReg _ _ _ _ _ _ _ => none
  | .tstImm _ _ _ _ => none
  | .tstShImm _ _ _ _ _ => none
  | .tstShReg _ _ _ _ _ => none
  | .teqImm _ _ _ _ => none
  | .teqShImm _ _ _ _ _ => none
  | .teqShReg _ _ _ _ _ => none
  | .cmpImm _ _ _ _ => none
  | .cmpShImm _ _ _ _ _ => none
  | .cmpShReg _ _ _ _ _ => none
  | .cmnImm _ _ _ _ => none
  | .cmnShImm _ _ _ _ _ => none
  | .cmnShReg _ _ _ _ _ => none
  | .orrImm _ _ _ _ _ _ => none
  | .orrShImm _ _ _ _ _ _ _ => none
  | .orrShReg _ _ _ _ _ _ _ => none
  | .movImm _ _ _ _ _ => none
  | .movShImm _ _ _ _ _ _ => none
  | .movShReg _ _ _ _ _ _ => none
  | .bicImm _ _ _ _ _ _ => none
  | .bicShImm _ _ _ _ _ _ _ => none
  | .bicShReg _ _ _ _ _ _ _ => none
  | .mvnImm _ _ _ _ _ => none
  | .mvnShImm _ _ _ _ _ _ => none
  | .mvnShReg _ _ _ _ _ _ => none
  | .mrs _ _ _ => none
  | .msrReg _ _ _ _ => none
  | .msrImm _ _ _ _ _ => none
  | .bx _ _ => none
  | .ldrImm _ _ _ _ _ _ _ => none
  | .ldrReg _ _ _ _ _ _ _ _ _ => none
  | .strImm _ _ _ _ _ _ _ => none
  | .strReg _ _ _ _ _ _ _ _ _ => none
  | .ldrbImm _ _ _ _ _ _ _ => none
  | .ldrbReg _ _ _ _ _ _ _ _ _ => none
  | .strbImm _ _ _ _ _ _ _ => none
  | .strbReg _ _ _ _ _ _ _ _ _ => none
  | .undefArch _ => none
  | .ldm _ _ _ _ _ _ _ => none
  | .stm _ _ _ _ _ _ _ => none
  | .b _ _ => none
  | .bl _ _ => none
  | .undefCopTransfer _ => none
  | .undefCopOp _ => none
  | .swi _ _ => none
  | .mul _ _ _ _ _ => none
  | .mla _ _ _ _ _ _ => none
  | .umull _ _ _ _ _ _ => none
  | .umlal _ _ _ _ _ _ => none
  | .smull _ _ _ _ _ _ => none
  | .smlal _ _ _ _ _ _ => none
  | .swp _ _ _ _ => none
  | .swpb _ _ _ _ => none
  | .strhReg _ _ _ _ _ _ _ => none
  | .strhImm _ _ _ _ _ _ _ => none
  | .ldrhReg _ _ _ _ _ _ _ => none
  | .ldrhImm _ _ _ _ _ _ _ => none
  | .ldrsbReg _ _ _ _ _ _ _ => none
  | .ldrsbImm _ _ _ _ _ _ _ => none
  | .ldrshReg _ _ _ _ _ _ _ => none
  | .ldrshImm _ _ _ _ _ _ _ => none
  | .undefDoubleword _ => none

/-- The condition of an instruction of 32-bit mode; none for one of compressed mode (30_encoding.md R122). -/
def armCond (i : Instr) : Option Cond :=
  match i with
  | .andImm c _ _ _ _ _ => some c
  | .andShImm c _ _ _ _ _ _ => some c
  | .andShReg c _ _ _ _ _ _ => some c
  | .eorImm c _ _ _ _ _ => some c
  | .eorShImm c _ _ _ _ _ _ => some c
  | .eorShReg c _ _ _ _ _ _ => some c
  | .subImm c _ _ _ _ _ => some c
  | .subShImm c _ _ _ _ _ _ => some c
  | .subShReg c _ _ _ _ _ _ => some c
  | .rsbImm c _ _ _ _ _ => some c
  | .rsbShImm c _ _ _ _ _ _ => some c
  | .rsbShReg c _ _ _ _ _ _ => some c
  | .addImm c _ _ _ _ _ => some c
  | .addShImm c _ _ _ _ _ _ => some c
  | .addShReg c _ _ _ _ _ _ => some c
  | .adcImm c _ _ _ _ _ => some c
  | .adcShImm c _ _ _ _ _ _ => some c
  | .adcShReg c _ _ _ _ _ _ => some c
  | .sbcImm c _ _ _ _ _ => some c
  | .sbcShImm c _ _ _ _ _ _ => some c
  | .sbcShReg c _ _ _ _ _ _ => some c
  | .rscImm c _ _ _ _ _ => some c
  | .rscShImm c _ _ _ _ _ _ => some c
  | .rscShReg c _ _ _ _ _ _ => some c
  | .tstImm c _ _ _ => some c
  | .tstShImm c _ _ _ _ => some c
  | .tstShReg c _ _ _ _ => some c
  | .teqImm c _ _ _ => some c
  | .teqShImm c _ _ _ _ => some c
  | .teqShReg c _ _ _ _ => some c
  | .cmpImm c _ _ _ => some c
  | .cmpShImm c _ _ _ _ => some c
  | .cmpShReg c _ _ _ _ => some c
  | .cmnImm c _ _ _ => some c
  | .cmnShImm c _ _ _ _ => some c
  | .cmnShReg c _ _ _ _ => some c
  | .orrImm c _ _ _ _ _ => some c
  | .orrShImm c _ _ _ _ _ _ => some c
  | .orrShReg c _ _ _ _ _ _ => some c
  | .movImm c _ _ _ _ => some c
  | .movShImm c _ _ _ _ _ => some c
  | .movShReg c _ _ _ _ _ => some c
  | .bicImm c _ _ _ _ _ => some c
  | .bicShImm c _ _ _ _ _ _ => some c
  | .bicShReg c _ _ _ _ _ _ => some c
  | .mvnImm c _ _ _ _ => some c
  | .mvnShImm c _ _ _ _ _ => some c
  | .mvnShReg c _ _ _ _ _ => some c
  | .mrs c _ _ => some c
  | .msrReg c _ _ _ => some c
  | .msrImm c _ _ _ _ => some c
  | .bx c _ => some c
  | .ldrImm c _ _ _ _ _ _ => some c
  | .ldrReg c _ _ _ _ _ _ _ _ => some c
  | .strImm c _ _ _ _ _ _ => some c
  | .strReg c _ _ _ _ _ _ _ _ => some c
  | .ldrbImm c _ _ _ _ _ _ => some c
  | .ldrbReg c _ _ _ _ _ _ _ _ => some c
  | .strbImm c _ _ _ _ _ _ => some c
  | .strbReg c _ _ _ _ _ _ _ _ => some c
  | .undefArch c => some c
  | .ldm c _ _ _ _ _ _ => some c
  | .stm c _ _ _ _ _ _ => some c
  | .b c _ => some c
  | .bl c _ => some c
  | .undefCopTransfer c => some c
  | .undefCopOp c => some c
  | .swi c _ => some c
  | .mul c _ _ _ _ => some c
  | .mla c _ _ _ _ _ => some c
  | .umull c _ _ _ _ _ => some c
  | .umlal c _ _ _ _ _ => some c
  | .smull c _ _ _ _ _ => some c
  | .smlal c _ _ _ _ _ => some c
  | .swp c _ _ _ => some c
  | .swpb c _ _ _ => some c
  | .strhReg c _ _ _ _ _ _ => some c
  | .strhImm c _ _ _ _ _ _ => some c
  | .ldrhReg c _ _ _ _ _ _ => some c
  | .ldrhImm c _ _ _ _ _ _ => some c
  | .ldrsbReg c _ _ _ _ _ _ => some c
  | .ldrsbImm c _ _ _ _ _ _ => some c
  | .ldrshReg c _ _ _ _ _ _ => some c
  | .ldrshImm c _ _ _ _ _ _ => some c
  | .undefDoubleword c => some c
  | .tLslImm _ _ _ => none
  | .tLsrImm _ _ _ => none
  | .tAsrImm _ _ _ => none
  | .tAddReg _ _ _ => none
  | .tSubReg _ _ _ => none
  | .tAddImm3 _ _ _ => none
  | .tSubImm3 _ _ _ => none
  | .tMovImm8 _ _ => none
  | .tCmpImm8 _ _ => none
  | .tAddImm8 _ _ => none
  | .tSubImm8 _ _ => none
  | .tAnd _ _ => none
  | .tEor _ _ => none
  | .tLsl _ _ => none
  | .tLsr _ _ => none
  | .tAsr _ _ => none
  | .tAdc _ _ => none
  | .tSbc _ _ => none
  | .tRor _ _ => none
  | .tTst _ _ => none
  | .tNeg _ _ => none
  | .tCmp _ _ => none
  | .tCmn _ _ => none
  | .tOrr _ _ => none
  | .tMul _ _ => none
  | .tBic _ _ => none
  | .tMvn _ _ => none
  | .tAddHi _ _ => none
  | .tCmpHi _ _ => none
  | .tMovHi _ _ => none
  | .tBx _ => none
  | .tUndefBxH1 => none
  | .tLdrPc _ _ => none
  | .tStrReg _ _ _ => none
  | .tStrbReg _ _ _ => none
  | .tLdrReg _ _ _ => none
  | .tLdrbReg _ _ _ => none
  | .tStrhReg _ _ _ => none
  | .tLdsbReg _ _ _ => none
  | .tLdrhReg _ _ _ => none
  | .tLdshReg _ _ _ => none
  | .tStrImm _ _ _ => none
  | .tLdrImm _ _ _ => none
  | .tStrbImm _ _ _ => none
  | .tLdrbImm _ _ _ => none
  | .tStrhImm _ _ _ => none
  | .tLdrhImm _ _ _ => none
  | .tStrSp _ _ => none
  | .tLdrSp _ _ => none
  | .tAddPc _ _ => none
  | .tAddSp _ _ => none
  | .tAddSpPos _ => none
  | .tAddSpNeg _ => none
  | .tUndefB1 => none
  | .tUndefB2 => none
  | .tPush _ _ => none
  | .tUndefB6 => none
  | .tUndefB8 => none
  | .tPop _ _ => none
  | .tUndefBe => none
  | .tStmia _ _ => none
  | .tLdmia _ _ => none
  | .tBeq _ => none
  | .tBne _ => none
  | .tBcs _ => none
  | .tBcc _ => none
  | .tBmi _ => none
  | .tBpl _ => none
  | .tBvs _ => none
  | .tBvc _ => none
  | .tBhi _ => none
  | .tBls _ => none
  | .tBge _ => none
  | .tBlt _ => none
  | .tBgt _ => none
  | .tBle _ => none
  | .tUndefCond14 => none
  | .tSwi _ => none
  | .tB _ => none
  | .tUndefBlxSuffix => none
  | .tBlHi _ => none
  | .tBlLo _ => none

/-- No interrupt entry is due (40_execution_common.md R160). -/
def noInterrupt (s : State) : Prop := s.cpsr.i = true ∨ irqLine s.dev = false

/-- The width of an instruction fetch (20_memory.md R82). -/
def fetchWidth (thumb : Bool) : Width := if thumb then .half else .word

/-- The bytes an aligned fetch at `pc` reads, lowest address first. -/
def fetchedBytes (s : State) : List Byte :=
  (List.range (fetchWidth s.cpsr.t).bytes).map (fun j => memGet s.mem (byteKey s.cfg s.pc + j))

/-- The state after the fetch of a step: the cost counted and recorded, nothing handed to the host yet. -/
def afterFetch (s : State) : State :=
  { s with
    cycles := accessCycles (regionOf s.cfg s.pc) (fetchWidth s.cpsr.t) (isSequential s.busLast s.pc (fetchWidth s.cpsr.t))
    outputs := []
    busLast := some (s.pc, fetchWidth s.cpsr.t) }

/-- Two modes see the same physical register under a number (10_state.md R24): always for r0 to r7; for r8 to r12 unless exactly one
is FIQ; for r13 and r14 when they have one bank, User and System sharing theirs. -/
def sharesRegister (m m' : Mode) (i : Reg) : Prop :=
  i.toNat < 8 ∨ (i.toNat < 13 ∧ (m = .fiq ↔ m' = .fiq)) ∨
    (13 ≤ i.toNat ∧ (m = m' ∨ (m = .user ∧ m' = .sys) ∨ (m = .sys ∧ m' = .user)))

/-- The seven modes and their numbers (10_state.md R23). -/
def modeNumbers : List (Mode × BitVec 5) :=
  [(.user, 0b10000#5), (.fiq, 0b10001#5), (.irq, 0b10010#5), (.svc, 0b10011#5), (.abt, 0b10111#5), (.und, 0b11011#5),
    (.sys, 0b11111#5)]

/-- A word carries a status word's bits at their positions, bits 27:8 zero (10_state.md R28). -/
def carries (v : Word) (p : Psr) : Prop :=
  v.getLsbD 31 = p.n ∧ v.getLsbD 30 = p.z ∧ v.getLsbD 29 = p.c ∧ v.getLsbD 28 = p.v ∧ v.extractLsb' 8 20 = 0#20 ∧
    v.getLsbD 7 = p.i ∧ v.getLsbD 6 = p.f ∧ v.getLsbD 5 = p.t ∧ v.extractLsb' 0 5 = p.m

/-- The operand of the two MSR forms (45_status_transfer.md R282, R283). -/
inductive MsrOperand where
  | reg (rm : Reg)
  | imm (rot : BitVec 4) (imm8 : BitVec 8)
  deriving DecidableEq, Repr

/-- The MSR instruction of an operand. -/
def MsrOperand.instr (o : MsrOperand) (c : Cond) (p : Bool) (fields : BitVec 4) : Instr :=
  match o with
  | .reg rm => .msrReg c p fields rm
  | .imm rot imm8 => .msrImm c p fields rot imm8

/-- The value MSR writes. -/
def MsrOperand.value (o : MsrOperand) (s : State) : Word :=
  match o with
  | .reg rm => armReg rm s
  | .imm rot imm8 => (imm8.setWidth 32 : Word).rotateRight (2 * rot.toNat)

/-- The flags an MSR leaves: those of the value when field f is selected, else the old ones. -/
def msrFlags (fields : BitVec 4) (v : Word) (p : Cpsr) : Cpsr :=
  if fields.getLsbD 3 then
    { p with n := v.getLsbD 31, z := v.getLsbD 30, c := v.getLsbD 29, v := v.getLsbD 28 }
  else p

/-- The timer's state after `c` cycles when nothing else ticks it and it does not wrap: `k` ticks and the cycles left
(60_exceptions.md R546). -/
def timerTicks (cfg : Cfg) (t : Timer) (c : Nat) : Nat :=
  if c < t.div.toNat then 0 else 1 + (c - t.div.toNat) / (t.period cfg).toNat

/-- The cycles left to the next tick after `c` cycles (R546). -/
def timerDivAfter (cfg : Cfg) (t : Timer) (c : Nat) : Nat :=
  if c < t.div.toNat then t.div.toNat - c else (t.period cfg).toNat - (c - t.div.toNat) % (t.period cfg).toNat

/-- The number of units a channel's run transfers (60_exceptions.md R568). -/
def dmaCount (cfg : Cfg) (ch : Fin 4) (c : DmaChannel) : Nat :=
  let bits := cfg.dmaCountBits[ch.val]
  if c.count.toNat % 2 ^ bits = 0 then 2 ^ bits else c.count.toNat % 2 ^ bits

/-- What an address moves by after a unit (60_exceptions.md R565, R569). -/
def dmaMove (mode : BitVec 2) (unit : Width) (a : Word) : Word :=
  if mode = 1#2 then a - BitVec.ofNat 32 unit.bytes
  else if mode = 2#2 then a
  else a + BitVec.ofNat 32 unit.bytes

/-- The address after `k` moves. -/
def dmaMoves (mode : BitVec 2) (unit : Width) : Nat → Word → Word
  | 0, a => a
  | k + 1, a => dmaMoves mode unit k (dmaMove mode unit a)

/-- The default region table (20_memory.md R72, 70_reset_and_hazards.md R631) by bits 31:24 of an address: base, kind, store size, the
cost of a byte or halfword and of a word, and the two costs when sequential; the last two entries are the cartridge, with its longest
image, and UNUSED. -/
def defaultRegion (window : Nat) : Nat × RegionKind × Nat × (Nat × Nat) × (Nat × Nat) :=
  match window with
  | 0x00 => (0x00000000, .bootImage, 16384, (1, 1), (1, 1))
  | 0x02 => (0x02000000, .byteStore, 262144, (3, 6), (3, 6))
  | 0x03 => (0x03000000, .byteStore, 32768, (1, 1), (1, 1))
  | 0x04 => (0x04000000, .window, 1024, (1, 1), (1, 1))
  | 0x05 => (0x05000000, .byteStore, 1024, (1, 2), (1, 2))
  | 0x06 => (0x06000000, .byteStore, 98304, (1, 2), (1, 2))
  | 0x07 => (0x07000000, .byteStore, 1024, (1, 1), (1, 1))
  | 0x08 | 0x09 | 0x0A | 0x0B | 0x0C | 0x0D => (0x08000000, .cartImage, 0x02000000, (5, 8), (3, 6))
  | 0x01 => (0x01000000, .unused, 0, (1, 1), (1, 1))
  | _ => (0x0E000000, .unused, 0, (1, 1), (1, 1))

/-- The default internal cycles (70_reset_and_hazards.md R632), `refill` being 2; `noEffect` is the model's choice (log 33). -/
def defaultInternal : InternalCycles :=
  { skipped := 0, dataProcessing := 0, registerShift := 1, refill := 2, statusTransfer := 0
    branch := 2, branchNotTaken := 0, longBranchFirst := 0, longBranchSecond := 2
    load := 1, store := 0, loadMultiple := 1, storeMultiple := 0, trap := 2, noEffect := 0
    multiplier := #v[1, 2, 3, 4], mul := 0, mla := 1, longMultiply := 1, longAccumulate := 2, swap := 1 }

/-- The table of 20_memory.md R86: the offsets the CORE routes, the register each names, and the value it reads as. -/
def windowMap (o : Offsets) : List (Nat × IoReg × (Devices → Half)) :=
  [ (o.ie, .ie, fun d => d.ie), (o.ifr, .ifr, fun d => d.ifr), (o.dispstat, .dispstat, fun d => d.dispstat)
  , (o.vcount, .vcount, fun d => d.vcount), (o.ime, .ime, fun d => d.ime) ] ++
  (List.finRange 4).flatMap (fun n =>
    [ (o.timer[n.val], .timerData n, fun d => (d.timers[n.val]).counter)
    , (o.timer[n.val] + 2, .timerCtrl n, fun d => (d.timers[n.val]).ctrl) ]) ++
  (List.finRange 4).flatMap (fun ch =>
    [ (o.dma[ch.val], .dmaReg ch .srcLo, fun d => (d.dma[ch.val]).src.setWidth 16)
    , (o.dma[ch.val] + 2, .dmaReg ch .srcHi, fun d => BitVec.ofNat 16 ((d.dma[ch.val]).src.toNat / 2 ^ 16))
    , (o.dma[ch.val] + 4, .dmaReg ch .dstLo, fun d => (d.dma[ch.val]).dst.setWidth 16)
    , (o.dma[ch.val] + 6, .dmaReg ch .dstHi, fun d => BitVec.ofNat 16 ((d.dma[ch.val]).dst.toNat / 2 ^ 16))
    , (o.dma[ch.val] + 8, .dmaReg ch .count, fun d => (d.dma[ch.val]).count)
    , (o.dma[ch.val] + 10, .dmaCtrl ch, fun d => (d.dma[ch.val]).ctrl) ])

/-- The bits of `v` where the mask is 1, those of `old` elsewhere (20_memory.md R85). -/
def blend (mask v old : Half) : Half := old ^^^ ((old ^^^ v) &&& mask)

/-- The low or the high half of a word. -/
def halfOf (high : Bool) (w : Word) : Half := BitVec.ofNat 16 (if high then w.toNat / 2 ^ 16 else w.toNat)

/-- A halfword, as the low half of a word, with the byte that an odd or even offset names replaced. -/
def withByte (off : Nat) (h b : Word) : Word :=
  if off % 2 = 1 then ((b &&& 0x000000FF#32) <<< 8) ||| (h &&& 0x000000FF#32) else (h &&& 0x0000FF00#32) ||| (b &&& 0x000000FF#32)

/-- A byte at its place in a halfword, the other byte zero. -/
def placedByte (off : Nat) (b : Word) : Word := withByte off 0#32 b

/-- A word with its low or its high half replaced. -/
def halfReplaced (high : Bool) (w : Word) (h : Half) : Word :=
  if high then (h.setWidth 32 <<< 16) ||| (w &&& 0x0000FFFF#32) else (w &&& 0xFFFF0000#32) ||| h.setWidth 32

/-- A device record with another DMA channel in one place and nothing else changed. -/
def onlyChannel (ch : Fin 4) (d e : Devices) : Prop :=
  e = { d with dma := e.dma } ∧ ∀ c : Fin 4, c ≠ ch → e.dma[c.val] = d.dma[c.val]

end Sys2Proof.Claims

open Sys2Proof.Claims

/-! ## Encoding and the step -/

/-- Decoding the encoding of a well-formed instruction gives it back, for every instruction of both instruction sets and every
operand (30_encoding.md R122, R124, R127). -/
def Obligations.DecodeOfEncode : Prop :=
  ∀ i : Instr, i.wf = true → decode (encode i) = some i

/-- R125: the decoder gives every 32-bit word the format the procedure gives it, and no word matches two rows of the table. -/
def Obligations.ArmDecodeFollowsProcedure : Prop :=
  (∀ w : Word, (match decodeArm w with | some i => armFormat i | none => some .unrecognized) = some (armFormatOf w)) ∧
  (∀ w : Word, (armRows.filter (fun r => r.hits w)).length ≤ 1)

/-- R129: every halfword decodes, to an instruction of the format the procedure gives it. -/
def Obligations.ThumbDecodeFollowsProcedure : Prop :=
  ∀ h : Half, ∃ i, decodeThumb h = some i ∧ thumbFormat i = some (thumbFormatOf h)

/-- Words the spec's rules assemble (examples of 41 to 49) decode to the instructions they stand for. -/
def Obligations.SpecWordsDecode : Prop :=
  decodeArm 0xE0910002#32 = some (.addShImm .al true 1#4 0#4 0#5 .lsl 2#4) ∧
  decodeArm 0xE3A00001#32 = some (.movImm .al false 0#4 0#4 1#8) ∧
  decodeArm 0xE7110102#32 = some (.ldrReg .al true false false 1#4 0#4 2#5 .lsl 2#4) ∧
  decodeArm 0xE92D0007#32 = some (.stm .al true false false true 13#4 7#16) ∧
  decodeArm 0x1A7FFFFF#32 = some (.b .ne 0x1FFFFFC#26) ∧
  decodeArm 0xE129F000#32 = some (.msrReg .al false 9#4 0#4) ∧
  decodeArm 0xE0D10392#32 = some (.smull .al true 1#4 0#4 3#4 2#4) ∧
  decodeArm 0xE1D100F2#32 = some (.ldrshImm .al true true false 1#4 0#4 2#8) ∧
  decodeThumb 0x4778#16 = some (.tBx 15#4) ∧
  decodeThumb 0xB503#16 = some (.tPush true 3#8) ∧
  decodeThumb 0xDB80#16 = some (.tBlt 0x100#9)

/-- R8, R71, R72, R78, R504, R522, R541, R568, R631, R632: the configuration right after reset gives every address the region, the store
and the costs of the spec's tables, and every other parameter its default; in every configuration the spec admits each address lies in exactly one region, and the bytes of an aligned unit stand under
successive keys of one region, so that no access crosses a boundary. The default of `cfg.unlisted`, the length of the cartridge and the
cost of a trap that has no effect are the model's choice (logs 2, 5, 33). -/
def Obligations.RegionTable : Prop :=
  (∀ a : Word, let r := regionOf State.reset.cfg a
    (r.base, r.kind, r.size, (accessCycles r .half false, accessCycles r .word false),
      (accessCycles r .half true, accessCycles r .word true)) = defaultRegion (a.toNat / 2 ^ 24) ∧
    accessCycles r .byte false = accessCycles r .half false ∧ accessCycles r .byte true = accessCycles r .half true) ∧
  (let c := State.reset.cfg
   c.ok = true ∧ c.armPcAhead = 8#32 ∧ c.thumbPcAhead = 4#32 ∧ c.entry = 0x08000000#32 ∧ c.resetMode = .svc ∧
   c.vector = { reset := 0x00#32, undef := 0x04#32, swi := 0x08#32, pabt := 0x0C#32, dabt := 0x10#32, irq := 0x18#32, fiq := 0x1C#32 } ∧
   (c.offset.ie, c.offset.ifr, c.offset.dispstat, c.offset.vcount, c.offset.ime) = (0x00, 0x02, 0x04, 0x06, 0x08) ∧
   (c.irqBit.vblank.val, c.irqBit.hblank.val, c.irqBit.vcount.val, c.irqBit.serial.val, c.irqBit.keypad.val, c.irqBit.gamepak.val) =
     (0, 1, 2, 7, 12, 13) ∧
   c.internal = defaultInternal ∧
   c.unrecognizedPolicy = .trap ∧ c.swiPolicy = .trap ∧ c.unlisted = .armv4t ∧ c.irqEntryCycles = 3 ∧ c.dmaOverheadCycles = 2 ∧
   (∀ n : Fin 4, c.offset.timer[n.val] = 0x100 + 4 * n.val ∧ c.offset.dma[n.val] = 0x0B0 + 12 * n.val ∧
     (c.irqBit.timer[n.val]).val = 3 + n.val ∧ (c.irqBit.dma[n.val]).val = 8 + n.val ∧
     c.dmaCountBits[n.val] = (if n = 3 then 16 else 14)) ∧
   c.prescale.toList = [1#11, 64#11, 256#11, 1024#11]) ∧
  (∀ (c : Cfg) (a : Word) (n : Width), c.ok = true →
    (regionOf c a ∈ c.regions ∧ (regionOf c a).holds a.toNat = true ∧
      ∀ r ∈ c.regions, r.holds a.toNat = true → r = regionOf c a) ∧
    (∀ j, j < n.bytes → regionOf c (alignDown a n + BitVec.ofNat 32 j) = regionOf c a ∧
      ((regionOf c a).kind ≠ .unused → byteKey c (alignDown a n + BitVec.ofNat 32 j) = unitKey c a n + j)))

/-- R160, R82, R590: with no host call pending, no interrupt due, and bytes at an aligned `pc` in a store or image that decode to an
instruction, a step is the fetch's accounting, that instruction's execution with its internal cycles, and the rest of the turn of the
reference schedule. That a step with no pending call is a turn of the schedule (log 6), and that the count it leaves is the sum of the
two counts the turn's calls return (log 27), are the model's choice. -/
def Obligations.StepRunsDecoded : Prop :=
  ∀ (s : State) (i : Instr), s.inputs = [] → noInterrupt s → plain s.cfg s.pc (fetchWidth s.cpsr.t) → s.pcAligned →
    decodeBytes s.cpsr.t (fetchedBytes s) = .ok (i, []) →
    step s = andThen (addCycles (internalCycles i (afterFetch s)) (exec i (afterFetch s))) (fun t =>
      let u := dmaAdvance (timersAdvance t.cycles t)
      .next { timersAdvance u.cycles u with cycles := t.cycles + u.cycles })

/-- R503: with CPSR.I clear, IME bit 0 set and an enabled request pending, `cpu_step` is an interrupt entry: no fetch, no access,
IRQ mode at the IRQ vector (0x18), `pc + 4` in r14_irq, the entry's fixed cost (3); with CPSR.I set, or IME bit 0 clear, or no request
both pending and enabled, it executes an instruction. R520: the interrupt line is high exactly when IME bit 0 is set and an enabled request
is pending. That the last access is as before (log 25) and that the step goes on with the rest of a turn of the reference
schedule (log 6) are the model's choice. -/
def Obligations.InterruptEntry : Prop :=
  (∀ s : State, s.inputs = [] → s.cpsr.i = false → s.dev.ime.getLsbD 0 = true → s.dev.ie &&& s.dev.ifr ≠ 0#16 →
    ∃ t, cpuStep s = .next t ∧ Entered .irq s.cfg.vector.irq (s.pc + 4#32) s t ∧ t.cycles = s.cfg.irqEntryCycles ∧
      t.busLast = s.busLast ∧ t.draws = s.draws ∧ step s = .next (finishTurn t)) ∧
  (∀ s : State, s.cpsr.i = true ∨ s.dev.ime.getLsbD 0 = false ∨ s.dev.ie &&& s.dev.ifr = 0#16 →
    cpuStep s = fetchExec (beginStep s)) ∧
  (∀ d : Devices, irqLine d = true ↔ d.ime.getLsbD 0 = true ∧ ∃ k, k < 16 ∧ d.ie.getLsbD k = true ∧ d.ifr.getLsbD k = true)

/-! ## Exceptions, modes, privilege -/

/-- R501 (with R290, R291 and 48 R369): a software interrupt enters Supervisor mode at its vector (0x08) with the next instruction's
address, whatever its comment field; under the policy `no_effect` it only advances `pc`. -/
def Obligations.SoftwareInterruptEntry : Prop :=
  (∀ (c : Cond) (comment : BitVec 24) (s : State), condHolds c s.cpsr = true →
    (s.cfg.swiPolicy = .trap →
      ∃ t, exec (.swi c comment) s = .next t ∧ Entered .svc s.cfg.vector.swi (s.pc + 4#32) s t) ∧
    (s.cfg.swiPolicy = .noEffect → exec (.swi c comment) s = .next { s with pc := s.pc + 4#32 })) ∧
  (∀ (imm8 : BitVec 8) (s : State),
    (s.cfg.swiPolicy = .trap →
      ∃ t, exec (.tSwi imm8) s = .next t ∧ Entered .svc s.cfg.vector.swi (s.pc + 2#32) s t) ∧
    (s.cfg.swiPolicy = .noEffect → exec (.tSwi imm8) s = .next { s with pc := s.pc + 2#32 }))

/-- R296, R297, R502: each of the twelve always-unrecognized rows enters Undefined mode at its vector (0x04) with the next instruction's
address; under the policy `no_effect` it only advances `pc`. That the two coprocessor rows do so whatever `cfg.unlisted` is (R297,
against 00 R6) is the model's reading (log 36). -/
def Obligations.UndefinedEntry : Prop :=
  (∀ (k : ArmUndef) (c : Cond) (s : State), condHolds c s.cpsr = true →
    (s.cfg.unrecognizedPolicy = .trap →
      ∃ t, exec (k.instr c) s = .next t ∧ Entered .und s.cfg.vector.undef (s.pc + 4#32) s t) ∧
    (s.cfg.unrecognizedPolicy = .noEffect → exec (k.instr c) s = .next { s with pc := s.pc + 4#32 })) ∧
  (∀ (k : ThumbUndef) (s : State),
    (s.cfg.unrecognizedPolicy = .trap →
      ∃ t, exec k.instr s = .next t ∧ Entered .und s.cfg.vector.undef (s.pc + 2#32) s t) ∧
    (s.cfg.unrecognizedPolicy = .noEffect → exec k.instr s = .next { s with pc := s.pc + 2#32 }))

/-- R131, R162, R296: a fetched 32-bit word that matches no row does what the unrecognized rows do when its condition holds, and is
skipped when it does not. That the step so handles words that have no row (log 26), and the number of internal cycles charged when the
policy is no effect (log 33), are the model's choice. -/
def Obligations.WordWithoutRowTraps : Prop :=
  ∀ (s : State) (b0 b1 b2 b3 : Byte), noInterrupt s → plain s.cfg s.pc .word → s.cpsr.t = false → s.pcAligned →
    fetchedBytes s = [b0, b1, b2, b3] → decodeArm (b3 ++ b2 ++ b1 ++ b0) = none →
    let passes := condHolds (Cond.ofBits (b3.extractLsb' 4 4)) s.cpsr
    let skip := fun n : Nat => { afterFetch s with pc := s.pc + 4#32, cycles := (afterFetch s).cycles + n }
    (passes = true → s.cfg.unrecognizedPolicy = .trap →
      ∃ t, cpuStep s = .next t ∧ Entered .und s.cfg.vector.undef (s.pc + 4#32) s t) ∧
    (passes = true → s.cfg.unrecognizedPolicy = .noEffect → cpuStep s = .next (skip s.cfg.internal.noEffect)) ∧
    (passes = false → cpuStep s = .next (skip s.cfg.internal.skipped))

/-- R510, R511: after a software interrupt or an unrecognized row that traps, of either instruction set, `MOVS pc, lr` resumes at the
next instruction with the status word as it was; only the handler mode's r14 and SPSR differ from before the trap. -/
def Obligations.TrapReturn : Prop :=
  let returns := fun (i : Instr) (m : Mode) (s : State) (next : Word) =>
    ∃ t u, exec i s = .next t ∧ t.cpsr.mode = m ∧ exec (.movShImm .al true 15#4 0#5 .lsl 14#4) t = .next u ∧
      u.cpsr = s.cpsr ∧ u.pc = next ∧ keepsRegs [physIndex m 14#4] s u ∧ u.mem = s.mem ∧ u.dev = s.dev ∧
      (∀ m', m' ≠ m → spsrOf m' u.spsr = spsrOf m' s.spsr)
  ∀ s : State, s.pcAligned →
    (s.cpsr.t = false → ∀ c : Cond, condHolds c s.cpsr = true →
      (s.cfg.swiPolicy = .trap → ∀ n, returns (.swi c n) .svc s (s.pc + 4#32)) ∧
      (s.cfg.unrecognizedPolicy = .trap → ∀ k : ArmUndef, returns (k.instr c) .und s (s.pc + 4#32))) ∧
    (s.cpsr.t = true →
      (s.cfg.swiPolicy = .trap → ∀ n, returns (.tSwi n) .svc s (s.pc + 2#32)) ∧
      (s.cfg.unrecognizedPolicy = .trap → ∀ k : ThumbUndef, returns k.instr .und s (s.pc + 2#32)))

/-- R503, R510: an interrupt entry followed by `SUBS pc, lr, #4` resumes the displaced instruction, in either instruction set: the
program counter and the whole status word are as before, and of the registers only r14_irq and SPSR_irq differ. -/
def Obligations.InterruptReturn : Prop :=
  ∀ s : State, s.cpsr.i = false → irqLine s.dev = true → s.pcAligned →
    ∃ t u, cpuStep s = .next t ∧ exec (.subImm .al true 14#4 15#4 0#4 4#8) t = .next u ∧
      u.pc = s.pc ∧ u.cpsr = s.cpsr ∧ keepsRegs [physIndex .irq 14#4] s u ∧ u.mem = s.mem ∧ u.dev = s.dev ∧
      (∀ m, m ≠ .irq → spsrOf m u.spsr = spsrOf m s.spsr)

/-- R284, R512, R513: an instruction executed in User mode leaves the machine in User mode with I, F, every SPSR and every register
User mode does not see unchanged, or is a trap: an entry into Supervisor or Undefined mode at its vector that saves the status word. -/
def Obligations.UserModeConfined : Prop :=
  ∀ (i : Instr) (s t : State), s.cpsr.mode = .user → exec i s = .next t →
    (t.cpsr.mode = .user ∧ t.cpsr.i = s.cpsr.i ∧ t.cpsr.f = s.cpsr.f ∧ t.spsr = s.spsr ∧
      (∀ k : Fin 30, (∀ r : Reg, physIndex .user r ≠ some k) → t.regs[k.val] = s.regs[k.val])) ∨
    (t.cpsr.mode = .svc ∧ t.pc = s.cfg.vector.swi ∧ t.cpsr.i = true ∧ t.spsr.svc = psrOfCpsr s.cpsr) ∨
    (t.cpsr.mode = .und ∧ t.pc = s.cfg.vector.undef ∧ t.cpsr.i = true ∧ t.spsr.und = psrOfCpsr s.cpsr)

/-- R22, R24: a write in the view of one mode is seen in the view of another exactly under the numbers that name the same physical
register in both; `x` is the view of the current mode and `x_usr` that of User mode. -/
def Obligations.BankedView : Prop :=
  (∀ (m m' : Mode) (i j : Reg) (v : Word) (s : State), i ≠ 15#4 → j ≠ 15#4 →
    ((i = j ∧ sharesRegister m m' i) → (s.setXIn m i v).xIn m' j = v) ∧
    (¬ (i = j ∧ sharesRegister m m' i) → (s.setXIn m i v).xIn m' j = s.xIn m' j)) ∧
  (∀ (i : Reg) (v : Word) (s : State), s.x i = s.xIn s.cpsr.mode i ∧ s.setX i v = s.setXIn s.cpsr.mode i v ∧
    s.xUsr i = s.xIn .user i ∧ s.setXUsr i v = s.setXIn .user i v)

/-- R280: MRS gives the current status word in every mode, the SPSR in the five modes that have one, as the 32 bits of R28. Two clauses
are the model's choice: register 15 as the destination is a branch to that value (U10, log 30); the SPSR in User and System mode is
refused (U3, log 9). -/
def Obligations.MrsResult : Prop :=
  (∀ (c : Cond) (p : Bool) (rd : Reg) (q : Psr) (s : State), condHolds c s.cpsr = true →
    (p = false → q = psrOfCpsr s.cpsr) → (p = true → spsrOf s.cpsr.mode s.spsr = some q) →
    ∃ v, carries v q ∧ (s.cpsr.mode, modeBits s.cpsr.mode) ∈ modeNumbers ∧
      exec (.mrs c p rd) s = .next (if rd = 15#4 then { s with pc := pcMask s.cpsr.t v }
        else { (s.setX rd v) with pc := s.pc + 4#32 })) ∧
  (∀ (c : Cond) (rd : Reg) (s : State), condHolds c s.cpsr = true → spsrOf s.cpsr.mode s.spsr = none →
    exec (.mrs c true rd) s = .refused .noSpsr)

/-- R281 to R284: MSR to the current status word, both operand forms. Field f writes N, Z, C, V; field c writes I, F, T and the mode,
in every mode but User, where it writes nothing; bits 27:8 do not exist. The new mode must be one of the seven (else U4). -/
def Obligations.MsrCpsrResult : Prop :=
  ∀ (o : MsrOperand) (c : Cond) (fields : BitVec 4) (s : State), condHolds c s.cpsr = true →
    let v := o.value s
    ((fields.getLsbD 0 = false ∨ s.cpsr.mode = .user) →
      exec (o.instr c false fields) s = .next { s with pc := s.pc + 4#32, cpsr := msrFlags fields v s.cpsr }) ∧
    (fields.getLsbD 0 = true → s.cpsr.mode ≠ .user → ∀ m : Mode, (m, v.extractLsb' 0 5) ∈ modeNumbers →
      exec (o.instr c false fields) s = .next { s with
        pc := s.pc + 4#32
        cpsr := { msrFlags fields v s.cpsr with i := v.getLsbD 7, f := v.getLsbD 6, t := v.getLsbD 5, mode := m } })

/-- R281 to R283: MSR to the SPSR, both operand forms, in the five modes that have one: field f writes its flags, field c its low
byte, any mode number; nothing else changes. -/
def Obligations.MsrSpsrResult : Prop :=
  ∀ (o : MsrOperand) (c : Cond) (fields : BitVec 4) (s : State) (q : Psr), condHolds c s.cpsr = true →
    spsrOf s.cpsr.mode s.spsr = some q →
    ∃ t r, exec (o.instr c true fields) s = .next t ∧ spsrOf s.cpsr.mode t.spsr = some r ∧
      (let v := o.value s
       (r.n, r.z, r.c, r.v) =
         (if fields.getLsbD 3 then (v.getLsbD 31, v.getLsbD 30, v.getLsbD 29, v.getLsbD 28) else (q.n, q.z, q.c, q.v)) ∧
       (r.i, r.f, r.t, r.m) =
         (if fields.getLsbD 0 then (v.getLsbD 7, v.getLsbD 6, v.getLsbD 5, v.extractLsb' 0 5) else (q.i, q.f, q.t, q.m))) ∧
      (∀ m, m ≠ s.cpsr.mode → spsrOf m t.spsr = spsrOf m s.spsr) ∧
      t = { s with pc := s.pc + 4#32, spsr := t.spsr }

/-- U3 (R30, R173): in User and System mode, which have no SPSR, MRS and MSR with the SPSR, a flag-setting data-processing
instruction into register 15, and LDM with the S bit and register 15 in its list are refused under that name. -/
def Obligations.SpsrAbsentStops : Prop :=
  ∀ (c : Cond) (s : State), condHolds c s.cpsr = true → (s.cpsr.mode = .user ∨ s.cpsr.mode = .sys) →
    (∀ rd, exec (.mrs c true rd) s = .refused .noSpsr) ∧
    (∀ (o : MsrOperand) fields, exec (o.instr c true fields) s = .refused .noSpsr) ∧
    (∀ (k : DpOp) rn (o : Operand2), exec (k.instr c true rn 15#4 o) s = .refused .noSpsr) ∧
    (∀ p u w rn (list : BitVec 16), list.getLsbD 15 = true → exec (.ldm c p u true w rn list) s = .refused .noSpsr)

/-- U4 (R31): a write that would put into CPSR.M a number that is none of the seven stops the machine: MSR with field c in a
privileged mode, and the SPSR copy of a flag-setting data-processing instruction into register 15 and of LDM with the S bit and
register 15 in its list (the stop is the model's choice, log 10). -/
def Obligations.IllegalModeStops : Prop :=
  ∀ (c : Cond) (s : State), condHolds c s.cpsr = true →
    (∀ (o : MsrOperand) (fields : BitVec 4), fields.getLsbD 0 = true → s.cpsr.mode ≠ .user →
      (∀ m : Mode, (m, (o.value s).extractLsb' 0 5) ∉ modeNumbers) →
      exec (o.instr c false fields) s = .fault .illegalMode) ∧
    (∀ (q : Psr) (k : DpOp) rn (o : Operand2), spsrOf s.cpsr.mode s.spsr = some q →
      (∀ m : Mode, (m, q.m) ∉ modeNumbers) → exec (k.instr c true rn 15#4 o) s = .fault .illegalMode) ∧
    (∀ (q : Psr) p u w rn (list : BitVec 16), list.getLsbD 15 = true → spsrOf s.cpsr.mode s.spsr = some q →
      (∀ m : Mode, (m, q.m) ∉ modeNumbers) → exec (.ldm c p u true w rn list) s = .fault .illegalMode)

/-- R400, R508: apart from reads and writes of an SPSR and replacements of the whole status word, every instruction that the
configuration admits answers a next state in every state ("No condition inside the core is fatal"); one of an unlisted family that
`cfg.unlisted = refuse` does not admit, and that would execute, stops under that name. -/
def Obligations.ExecStopsNowhereElse : Prop :=
  (∀ (i : Instr) (s : State), admits s.cfg i → Instr.status s.cfg i ≠ .everything → (∀ c rd, i ≠ .mrs c true rd) →
    (∀ (o : MsrOperand) c fields, i ≠ o.instr c true fields) → ∃ t, exec i s = .next t) ∧
  (∀ (i : Instr) (s : State), ¬ admits s.cfg i → (∀ c, armCond i = some c → condHolds c s.cpsr = true) →
    exec i s = .refused .unlistedFamily)

/-! ## Data processing -/

/-- R165, R168, R200: the operands of data processing, as the model computes them: the immediate is rotated right by twice its rotation
field, bit by bit, its carry bit 31 or, unrotated, the old C; the shifter gets the register and the amount; register 15 reads A + 8,
in format A3 A + 12 (as the amount too: U5, log 12). -/
def Obligations.SecondOperand : Prop :=
  ∀ (s : State) (rn rm : Reg),
    (∀ (rot : BitVec 4) (imm8 : BitVec 8), let b := operand2 s.pc (.imm rot imm8) s
      (∀ j, j < 32 → b.1.getLsbD j = (decide ((j + 2 * rot.toNat) % 32 < 8) && imm8.getLsbD ((j + 2 * rot.toNat) % 32))) ∧
      b.2 = (if rot = 0#4 then s.cpsr.c else b.1.getLsbD 31) ∧
      secondOperand (.imm rot imm8) s = b ∧
      s.xOr ((Operand2.imm rot imm8).pcValue s.cfg s.pc) rn = armReg rn s) ∧
    (∀ (n : BitVec 5) (ty : ShiftType),
      operand2 s.pc (.shImm n ty rm) s = shiftImm ty n (armReg rm s) s.cpsr.c ∧
      s.xOr ((Operand2.shImm n ty rm).pcValue s.cfg s.pc) rn = armReg rn s) ∧
    (∀ (rs : Reg) (ty : ShiftType),
      operand2 s.pc (.shReg rs ty rm) s = shiftReg ty ((armLateReg rs s).setWidth 8) (armLateReg rm s) s.cpsr.c ∧
      s.xOr ((Operand2.shReg rs ty rm).pcValue s.cfg s.pc) rn = armLateReg rn s)

/-- R200 to R217 with R171, R172: each of the twelve operations, every operand form: the result in a destination other than register
15, and with S the flags, of the exact arithmetic; without S and with register 15 as the destination a jump to the result, masked;
nothing else changes. That register 15 as the amount register of format A3 reads A + 12 is the model's choice (U5, log 12). -/
def Obligations.DataProcessingResult : Prop :=
  ∀ (k : DpOp) (c : Cond) (rn rd : Reg) (o : Operand2) (s : State), condHolds c s.cpsr = true →
    (rd ≠ 15#4 → ∀ sf : Bool, exec (k.instr c sf rn rd o) s = .next { (s.setX rd (k.run rn o s).result) with
      pc := s.pc + 4#32
      cpsr := if sf then (k.run rn o s).flags s.cpsr else s.cpsr }) ∧
    exec (k.instr c false rn 15#4 o) s = .next { s with pc := pcMask s.cpsr.t (k.run rn o s).result }

/-- R201, R173: with S and register 15 as the destination, an exception return: the status word becomes the current mode's SPSR, and
the result goes to the program counter masked by the instruction set the new T selects. That register 15 as the amount register of
format A3 reads A + 12 is the model's choice (U5, log 12). -/
def Obligations.DataProcessingReturn : Prop :=
  ∀ (k : DpOp) (c : Cond) (rn : Reg) (o : Operand2) (s : State) (q : Psr) (m : Mode), condHolds c s.cpsr = true →
    spsrOf s.cpsr.mode s.spsr = some q → (m, q.m) ∈ modeNumbers →
    exec (k.instr c true rn 15#4 o) s = .next { s with
      pc := pcMask q.t (k.run rn o s).result
      cpsr := { n := q.n, z := q.z, c := q.c, v := q.v, i := q.i, f := q.f, t := q.t, mode := m } }

/-- R200, R210 to R213, R218: a comparison writes the flags of its operation and nothing else. That register 15 as the amount register of
format A3 reads A + 12 is the model's choice (U5, log 12). -/
def Obligations.CompareResult : Prop :=
  ∀ (k : CmpOp) (c : Cond) (rn : Reg) (o : Operand2) (s : State), condHolds c s.cpsr = true →
    exec (k.instr c rn o) s = .next { s with pc := s.pc + 4#32, cpsr := (k.run rn o s).flags s.cpsr }

/-- R162: when its condition does not hold, an instruction of 32-bit mode only advances `pc` by 4, a trap or a software interrupt
too. -/
def Obligations.ConditionFailed : Prop :=
  ∀ (i : Instr) (c : Cond) (s : State), armCond i = some c → condHolds c s.cpsr = false →
    exec i s = .next { s with pc := s.pc + 4#32 }

/-- R166, R167: the two shifts, value by multiplication, division and bit position, carry by bit position. By an immediate, amount 0
means LSL 0, LSR 32, ASR 32 and RRX; by a register amount of 0 to 255, amount 0 changes nothing. -/
def Obligations.Shifts : Prop :=
  (∀ (n : BitVec 5) (m : Word) (cin : Bool),
    ((shiftImm .lsl n m cin).1.toNat = m.toNat * 2 ^ n.toNat % 2 ^ 32 ∧
      (shiftImm .lsl n m cin).2 = if n = 0#5 then cin else m.getLsbD (32 - n.toNat)) ∧
    (let k := if n = 0#5 then 32 else n.toNat
     (shiftImm .lsr n m cin).1.toNat = m.toNat / 2 ^ k ∧ (shiftImm .lsr n m cin).2 = m.getLsbD (k - 1) ∧
     (shiftImm .asr n m cin).1.toInt = m.toInt / 2 ^ k ∧ (shiftImm .asr n m cin).2 = m.getLsbD (k - 1)) ∧
    (n ≠ 0#5 → (∀ j, j < 32 → (shiftImm .ror n m cin).1.getLsbD j = m.getLsbD ((j + n.toNat) % 32)) ∧
      (shiftImm .ror n m cin).2 = m.getLsbD (n.toNat - 1)) ∧
    (n = 0#5 → (∀ j, j < 31 → (shiftImm .ror n m cin).1.getLsbD j = m.getLsbD (j + 1)) ∧
      (shiftImm .ror n m cin).1.getLsbD 31 = cin ∧ (shiftImm .ror n m cin).2 = m.getLsbD 0)) ∧
  (∀ (n : BitVec 8) (m : Word) (cin : Bool),
    (n = 0#8 → ∀ ty, shiftReg ty n m cin = (m, cin)) ∧
    (n ≠ 0#8 →
      ((shiftReg .lsl n m cin).1.toNat = m.toNat * 2 ^ n.toNat % 2 ^ 32 ∧
        (shiftReg .lsl n m cin).2 = (decide (n.toNat ≤ 32) && m.getLsbD (32 - n.toNat))) ∧
      ((shiftReg .lsr n m cin).1.toNat = m.toNat / 2 ^ n.toNat ∧
        (shiftReg .lsr n m cin).2 = (decide (n.toNat ≤ 32) && m.getLsbD (n.toNat - 1))) ∧
      ((shiftReg .asr n m cin).1.toInt = m.toInt / 2 ^ n.toNat ∧
        (shiftReg .asr n m cin).2 = m.getLsbD (min (n.toNat - 1) 31)) ∧
      ((∀ j, j < 32 → (shiftReg .ror n m cin).1.getLsbD j = m.getLsbD ((j + n.toNat) % 32)) ∧
        (shiftReg .ror n m cin).2 = m.getLsbD ((n.toNat + 31) % 32))))

/-! ## Memory -/

/-- R72 to R75, R77, R80, R81: a read in a store or image gives the bytes of the aligned unit, lowest address lowest, zero above, and
changes no byte; two addresses of one region whose distances from the window's base agree modulo the store's size name one byte; a read
of an UNUSED window is a fresh draw, cut to the width, and a write there, or to an image, changes no byte and no device; an access in
the register window is the window's own, at the offset modulo its size. -/
def Obligations.MemoryAccess : Prop :=
  ∀ (a : Word) (n : Width) (v : Word) (s : State),
    let r := unitRegion s.cfg a n
    let off := ((alignDown a n).toNat - r.base) % r.size
    (r.kind.isBacked = true → ∀ j, (memRead a n s).1.getLsbD j =
      (decide (j < 8 * n.bytes) && (memGet s.mem (unitKey s.cfg a n + j / 8)).getLsbD (j % 8))) ∧
    (memRead a n s).2.mem = s.mem ∧ (memRead a n s).2.dev = s.dev ∧
    (∀ x y : Word, regionOf s.cfg x = regionOf s.cfg y →
      (x.toNat - (regionOf s.cfg x).base) % (regionOf s.cfg x).size = (y.toNat - (regionOf s.cfg y).base) % (regionOf s.cfg y).size →
      byteKey s.cfg x = byteKey s.cfg y) ∧
    (r.kind = .unused → (memRead a n s).2.draws = s.draws + 1 ∧ ∀ j, (memRead a n s).1.getLsbD j =
      (decide (j < 8 * n.bytes) && (Config.openBus s.draws (alignDown a n) n.bytes).getLsbD j)) ∧
    ((r.kind = .unused ∨ r.kind.isImage = true) →
      (memWrite a n v s).mem = s.mem ∧ (memWrite a n v s).dev = s.dev ∧ (memWrite a n v s).outputs = s.outputs) ∧
    (r.kind = .window →
      (memRead a n s).1 = (ioRead off n s).1 ∧ (memWrite a n v s).dev = (ioWrite off n v s).dev ∧
      (memWrite a n v s).outputs = (ioWrite off n v s).outputs ∧ (memWrite a n v s).mem = s.mem)

/-- R77, R81, R91: a write to a byte store puts the value's bytes at the aligned unit and changes no other byte and no device; a read
of the same unit then gives the value, cut to the width; and a run of word reads, from stores and images, gives the words one after
another. -/
def Obligations.MemoryReadAfterWrite : Prop :=
  (∀ (a : Word) (n : Width) (v : Word) (s : State), inStore s.cfg a n →
    bytesAt (memWrite a n v s).mem (unitKey s.cfg a n) v n ∧
    keepsBytes (storeKeys s.cfg a n) s (memWrite a n v s) ∧ (memWrite a n v s).dev = s.dev ∧
    (∀ j, (memRead a n (memWrite a n v s)).1.getLsbD j = (decide (j < 8 * n.bytes) && v.getLsbD j))) ∧
  (∀ (a : Word) (k i : Nat) (s : State), i < k → (∀ j, j < k → plain s.cfg (wordAt a j) .word) →
    (readWords k a s).1.getD i 0#32 = (memRead (wordAt a i) .word s).1)

/-! ## Transfers of 32-bit mode -/

/-- R83, R230, R232, R235, R237, R409, R419 to R421: each of the ten single loads, every indexing form: the loaded value wins over
writeback, register 15 is a masked jump, no flag and no byte of memory changes, and the one access made is to the aligned unit of the
width. That a signed halfword load at an odd address accesses the halfword around it (R83, D37, against R421) is log 31. -/
def Obligations.SingleLoad : Prop :=
  ∀ (f : LoadForm) (c : Cond) (p u w : Bool) (rn rd : Reg) (s : State), condHolds c s.cpsr = true →
    admits s.cfg (f.instr c p u w rn rd) →
    let base := armReg rn s
    let a := transferAt p u base (f.offset s)
    let v := f.value a s
    ∃ t, exec (f.instr c p u w rn rd) s = .next t ∧
      (rd ≠ 15#4 → t.x rd = v ∧ t.pc = s.pc + 4#32) ∧ (rd = 15#4 → t.pc = pcMask s.cpsr.t v) ∧
      (writesBack p w rn → rn ≠ rd → t.x rn = indexed u base (f.offset s)) ∧
      keepsRegs (s.sees rd :: writtenBack p w rn s) s t ∧ t.cpsr = s.cpsr ∧ t.mem = s.mem ∧ keepsSystem s t ∧
      t.busLast = lastAccess a f.width

/-- R230, R231, R233, R236, R409, R418: each of the six single stores, every indexing form: the old value of the source (register 15
as A + 12) stands at the aligned address, every other byte is as before, and only the base register may change; in the register window
the store is the window's own (R81). -/
def Obligations.SingleStore : Prop :=
  ∀ (f : StoreForm) (c : Cond) (p u w : Bool) (rn rd : Reg) (s : State), condHolds c s.cpsr = true →
    admits s.cfg (f.instr c p u w rn rd) →
    let base := armReg rn s
    let a := transferAt p u base (f.offset s)
    ∃ t, exec (f.instr c p u w rn rd) s = .next t ∧ t.pc = s.pc + 4#32 ∧ t.cpsr = s.cpsr ∧
      (writesBack p w rn → t.x rn = indexed u base (f.offset s)) ∧ keepsRegs (writtenBack p w rn s) s t ∧
      (inStore s.cfg a f.width → bytesAt t.mem (unitKey s.cfg a f.width) (armLateReg rd s) f.width) ∧
      keepsBytes (storeKeys s.cfg a f.width) s t ∧
      t.spsr = s.spsr ∧ storesReach [(a, f.width, armLateReg rd s)] s t

/-- R250, R253, R254: LDM without the SPSR copy, every direction: the k-th listed register gets the k-th word from the start address,
in the current view or (S, register 15 not listed) the User view; writeback unless the base is listed; register 15 is a masked jump. -/
def Obligations.BlockLoad : Prop :=
  ∀ (c : Cond) (p u sbit w : Bool) (rn : Reg) (list : BitVec 16) (s : State), condHolds c s.cpsr = true →
    (sbit = false ∨ list.getLsbD 15 = false) →
    let n := (regList list).length
    let base := armReg rn s
    let vs := (readWords n (blockStart base p u n) s).1
    let view := if sbit then Mode.user else s.cpsr.mode
    ∃ t, exec (.ldm c p u sbit w rn list) s = .next t ∧
      (∀ (k : Nat) (i : Reg), (regList list)[k]? = some i → i ≠ 15#4 → t.xIn view i = vs.getD k 0#32) ∧
      (w = true → list.getLsbD rn.toNat = false → rn ≠ 15#4 → t.xIn s.cpsr.mode rn = blockFinal base u n) ∧
      t.pc = (if list.getLsbD 15 then pcMask s.cpsr.t (vs.getD (n - 1) 0#32) else s.pc + 4#32) ∧
      keepsRegs ((if w then [s.sees rn] else []) ++ listed view list) s t ∧
      t.cpsr = s.cpsr ∧ t.mem = s.mem ∧ keepsSystem s t

/-- R253, R173: LDM with the S bit and register 15 in the list: the other registers in the old mode's view, then the status word from
the SPSR, then the last word to `pc`, masked by the new T. -/
def Obligations.BlockLoadReturn : Prop :=
  ∀ (c : Cond) (p u w : Bool) (rn : Reg) (list : BitVec 16) (s : State) (q : Psr) (m : Mode), condHolds c s.cpsr = true →
    list.getLsbD 15 = true → spsrOf s.cpsr.mode s.spsr = some q → (m, q.m) ∈ modeNumbers →
    let n := (regList list).length
    let base := armReg rn s
    let vs := (readWords n (blockStart base p u n) s).1
    ∃ t, exec (.ldm c p u true w rn list) s = .next t ∧
      t.cpsr = { n := q.n, z := q.z, c := q.c, v := q.v, i := q.i, f := q.f, t := q.t, mode := m } ∧
      t.pc = pcMask q.t (vs.getD (n - 1) 0#32) ∧
      (∀ (k : Nat) (i : Reg), (regList list)[k]? = some i → i ≠ 15#4 → t.xIn s.cpsr.mode i = vs.getD k 0#32) ∧
      (w = true → list.getLsbD rn.toNat = false → rn ≠ 15#4 → t.xIn s.cpsr.mode rn = blockFinal base u n) ∧
      keepsRegs ((if w then [s.sees rn] else []) ++ listed s.cpsr.mode list) s t ∧ t.mem = s.mem ∧ keepsSystem s t

/-- R250 to R252, R254: STM, every direction and corner case: the k-th listed register's value stands at the k-th word from the start
address where that lies in a byte store and no later word of the transfer overwrites it; every other byte is as before; only the base register
may change; words in the register window are the window's own, lowest first. -/
def Obligations.BlockStore : Prop :=
  ∀ (c : Cond) (p u sbit w : Bool) (rn : Reg) (list : BitVec 16) (s : State), condHolds c s.cpsr = true →
    let n := (regList list).length
    let base := armReg rn s
    let start := blockStart base p u n
    ∃ t, exec (.stm c p u sbit w rn list) s = .next t ∧ t.pc = s.pc + 4#32 ∧ t.cpsr = s.cpsr ∧
      (∀ (k : Nat) (i : Reg), (regList list)[k]? = some i → inStore s.cfg (wordAt start k) .word →
        lasts s.cfg (wordAt start) n k .word → bytesAt t.mem (unitKey s.cfg (wordAt start k) .word)
          (stmValue sbit w rn base (blockFinal base u n) s i k) .word) ∧
      keepsBytes ((wordsFrom n start).flatMap (fun q => storeKeys s.cfg q.1 q.2)) s t ∧
      (w = true → rn ≠ 15#4 → t.x rn = blockFinal base u n) ∧
      keepsRegs (if w then [s.sees rn] else []) s t ∧ t.spsr = s.spsr ∧
      storesReach (blockStores (regList list) start (stmValue sbit w rn base (blockFinal base u n) s)) s t

/-- R407, R408: SWP and SWPB: both registers are read first; the loaded value is rotated as LDR does, the stored one is not; a
register other than 15 as the destination (register 15 in a field is U12, log 11). In the register window the store is the window's
own. -/
def Obligations.SwapResult : Prop :=
  ∀ (c : Cond) (b : Bool) (rn rd rm : Reg) (s : State), condHolds c s.cpsr = true → s.cfg.unlisted = .armv4t →
    let a := armReg rn s
    let n : Width := if b then .byte else .word
    let f : LoadForm := if b then .byteImm 0#12 else .wordImm 0#12
    ∃ t, exec (if b then .swpb c rn rd rm else .swp c rn rd rm) s = .next t ∧
      (rd ≠ 15#4 → t.x rd = f.value a s ∧ t.pc = s.pc + 4#32) ∧ (rd = 15#4 → t.pc = pcMask s.cpsr.t (f.value a s)) ∧
      (inStore s.cfg a n → bytesAt t.mem (unitKey s.cfg a n) (armReg rm s) n) ∧
      keepsBytes (storeKeys s.cfg a n) s t ∧ keepsRegs [s.sees rd] s t ∧ t.cpsr = s.cpsr ∧ t.spsr = s.spsr ∧
      storesReach [(a, n, armReg rm s)] s t

/-! ## Multiplies, branches -/

/-- R401, R402: MUL and MLA modulo 2^32, N and Z with S, C and V as they were (the spec's choice, U12, log 8); register 15 as the
destination is log 11. -/
def Obligations.MultiplyResult : Prop :=
  ∀ (c : Cond) (sf : Bool) (rd rn rs rm : Reg) (acc : Bool) (s : State), condHolds c s.cpsr = true → s.cfg.unlisted = .armv4t →
    let r := BitVec.ofNat 32 ((armReg rm s).toNat * (armReg rs s).toNat + if acc then (armReg rn s).toNat else 0)
    let flags := if sf then { s.cpsr with n := decide (r.toInt < 0), z := decide (r = 0#32) } else s.cpsr
    exec (if acc then .mla c sf rd rn rs rm else .mul c sf rd rs rm) s = .next (
      if rd = 15#4 then { s with cpsr := flags, pc := pcMask s.cpsr.t r }
      else { (s.setX rd r) with cpsr := flags, pc := s.pc + 4#32 })

/-- R403 to R406 and section 3: the four long multiplies modulo 2^64, RdLo then RdHi, N and Z of the 64 bits with S, C and V as they
were (U12, log 8); register 15 as a destination is log 11. -/
def Obligations.LongMultiplyResult : Prop :=
  ∀ (k : LongMul) (c : Cond) (sf : Bool) (rdHi rdLo rs rm : Reg) (s : State), condHolds c s.cpsr = true →
    s.cfg.unlisted = .armv4t →
    let r := k.result (armReg rm s) (armReg rs s) (armReg rdHi s) (armReg rdLo s)
    let hi : Word := BitVec.ofNat 32 (r.toNat / 2 ^ 32)
    let lo : Word := BitVec.ofNat 32 r.toNat
    ∃ t, exec (k.instr c sf rdHi rdLo rs rm) s = .next t ∧
      (rdHi ≠ 15#4 → t.x rdHi = hi) ∧ (rdLo ≠ 15#4 → rdLo ≠ rdHi → t.x rdLo = lo) ∧
      t.pc = (if rdHi = 15#4 then pcMask s.cpsr.t hi else if rdLo = 15#4 then pcMask s.cpsr.t lo else s.pc + 4#32) ∧
      t.cpsr = (if sf then { s.cpsr with n := decide (r.toInt < 0), z := decide (r = 0#64) } else s.cpsr) ∧
      keepsRegs [s.sees rdHi, s.sees rdLo] s t ∧ t.mem = s.mem ∧ keepsSystem s t

/-- R270 to R272: B, BL and BX. -/
def Obligations.ArmBranches : Prop :=
  ∀ (c : Cond) (s : State), condHolds c s.cpsr = true →
    (∀ off : BitVec 26, exec (.b c off) s = .next { s with pc := pcMask s.cpsr.t (s.pc + s.cfg.armPcAhead + off.signExtend 32) }) ∧
    (∀ off : BitVec 26, exec (.bl c off) s = .next { (s.setX 14#4 (s.pc + 4#32)) with
      pc := pcMask s.cpsr.t (s.pc + s.cfg.armPcAhead + off.signExtend 32) }) ∧
    (∀ rm : Reg, exec (.bx c rm) s = .next { s with
      cpsr := { s.cpsr with t := (armReg rm s).getLsbD 0 }
      pc := pcMask ((armReg rm s).getLsbD 0) (armReg rm s) })

/-! ## Compressed mode -/

/-- R302 to R328, R411: the twenty-three compressed-mode operations that write a low register: result and flags of the exact
arithmetic; nothing else changes (C and V after MUL are U12, log 8). -/
def Obligations.ThumbAluResult : Prop :=
  ∀ (k : ThumbAlu) (s : State), admits s.cfg k.instr →
    exec k.instr s = .next { (s.setX (k.dest.setWidth 4) (k.run s).result) with
      pc := s.pc + 2#32
      cpsr := (k.run s).flags s.cpsr }

/-- R302, R311, R322, R324, R325, R330: the five compressed-mode comparisons write flags only. -/
def Obligations.ThumbCompareResult : Prop :=
  ∀ (k : ThumbCmp) (s : State),
    exec k.instr s = .next { s with pc := s.pc + 2#32, cpsr := (k.run s).flags s.cpsr }

/-- R301, R329, R331, R332: ADD and MOV on the sixteen registers change no flag; register 15 as the destination is a masked jump; BX
takes the instruction set from bit 0. -/
def Obligations.ThumbHighRegister : Prop :=
  ∀ (rd rs : Reg) (s : State),
    (exec (.tAddHi rd rs) s = .next (if rd = 15#4 then { s with pc := pcMask s.cpsr.t (thumbReg rd s + thumbReg rs s) }
      else { (s.setX rd (thumbReg rd s + thumbReg rs s)) with pc := s.pc + 2#32 })) ∧
    (exec (.tMovHi rd rs) s = .next (if rd = 15#4 then { s with pc := pcMask s.cpsr.t (thumbReg rs s) }
      else { (s.setX rd (thumbReg rs s)) with pc := s.pc + 2#32 })) ∧
    (exec (.tBx rs) s = .next { s with
      cpsr := { s.cpsr with t := (thumbReg rs s).getLsbD 0 }
      pc := pcMask ((thumbReg rs s).getLsbD 0) (thumbReg rs s) })

/-- R368, R370 to R372: the fourteen conditional branches and the unconditional one; the two halves of the long branch, and what the pair
does: a call to A + 4 plus the signed 22-bit halfword offset, with the address after the pair, bit 0 set, in the link register. -/
def Obligations.ThumbBranches : Prop :=
  (∀ (c : Cond) (off : BitVec 9) (i : Instr) (s : State), thumbBranch c off = some i →
    exec i s = .next { s with
      pc := if condHolds c s.cpsr then pcMask s.cpsr.t (thumbLead s + off.signExtend 32) else s.pc + 2#32 }) ∧
  (∀ (off : BitVec 12) (s : State),
    exec (.tB off) s = .next { s with pc := pcMask s.cpsr.t (thumbLead s + off.signExtend 32) }) ∧
  (∀ (hi lo : BitVec 11) (s : State),
    exec (.tBlHi hi) s = .next { (s.setX 14#4 (thumbLead s + (hi.signExtend 32 <<< 12))) with pc := s.pc + 2#32 } ∧
    exec (.tBlLo lo) s = .next { (s.setX 14#4 ((s.pc + 2#32) ||| 1#32)) with
      pc := pcMask s.cpsr.t (s.x 14#4 + (lo.setWidth 32 <<< 1)) } ∧
    ∃ t u, exec (.tBlHi hi) s = .next t ∧ exec (.tBlLo lo) t = .next u ∧
      u.pc = pcMask s.cpsr.t (thumbLead s + ((hi ++ lo : BitVec 22).signExtend 32 <<< 1)) ∧
      u.x 14#4 = ((s.pc + 4#32) ||| 1#32) ∧ u.cpsr = s.cpsr ∧ keepsRegs [s.sees 14#4] s u ∧ u.mem = s.mem)

/-- R333 to R336: the address computations with the program counter and the stack pointer; no flag changes. -/
def Obligations.ThumbAddressArithmetic : Prop :=
  ∀ s : State,
    (∀ rd off, exec (.tAddPc rd off) s =
      .next { (s.setX (rd.setWidth 4) (thumbPcBase s + off.setWidth 32)) with pc := s.pc + 2#32 }) ∧
    (∀ rd off, exec (.tAddSp rd off) s =
      .next { (s.setX (rd.setWidth 4) (s.x 13#4 + off.setWidth 32)) with pc := s.pc + 2#32 }) ∧
    (∀ off, exec (.tAddSpPos off) s = .next { (s.setX 13#4 (s.x 13#4 + off.setWidth 32)) with pc := s.pc + 2#32 }) ∧
    (∀ off, exec (.tAddSpNeg off) s = .next { (s.setX 13#4 (s.x 13#4 - off.setWidth 32)) with pc := s.pc + 2#32 })

/-- R83, R350, R353, R354, R356, R358, R360, R413 to R415, R417: the ten compressed-mode loads, each with one access, to the aligned unit
of its width (LDSH at an odd address: log 31). -/
def Obligations.ThumbLoadResult : Prop :=
  ∀ (k : ThumbLoad) (rd : LowReg) (s : State), admits s.cfg (k.instr rd) →
    ∃ t, exec (k.instr rd) s = .next t ∧ t.x (rd.setWidth 4) = k.value (k.address s) s ∧ t.pc = s.pc + 2#32 ∧
      keepsRegs [s.sees (rd.setWidth 4)] s t ∧ t.cpsr = s.cpsr ∧ t.mem = s.mem ∧ keepsSystem s t ∧
      t.busLast = lastAccess (k.address s) k.width

/-- R351, R352, R355, R357, R359, R412, R416: the seven compressed-mode single stores; in the register window the store is the window's
own (R81). -/
def Obligations.ThumbStoreResult : Prop :=
  ∀ (k : ThumbStore) (rd : LowReg) (s : State), admits s.cfg (k.instr rd) →
    ∃ t, exec (k.instr rd) s = .next t ∧ t.pc = s.pc + 2#32 ∧ t.cpsr = s.cpsr ∧ t.regs = s.regs ∧ t.spsr = s.spsr ∧
      (inStore s.cfg (k.address s) k.width → bytesAt t.mem (unitKey s.cfg (k.address s) k.width) (low rd s) k.width) ∧
      keepsBytes (storeKeys s.cfg (k.address s) k.width) s t ∧ storesReach [(k.address s, k.width, low rd s)] s t

/-- R361, R362: PUSH stores the listed registers, then LR, upward from the lowered stack pointer, each word standing in a byte store unless
a later one overwrites it, and words in the register window being the window's own; POP loads them back and moves the stack pointer up, a
loaded register 15 being a masked jump that keeps T. -/
def Obligations.PushPop : Prop :=
  ∀ (r : Bool) (list : BitVec 8) (s : State),
    (let n := (pushList r list).length
     let sp := s.x 13#4 - BitVec.ofNat 32 (4 * n)
     ∃ t, exec (.tPush r list) s = .next t ∧ t.x 13#4 = sp ∧ t.pc = s.pc + 2#32 ∧ t.cpsr = s.cpsr ∧
       (∀ (k : Nat) (i : Reg), (pushList r list)[k]? = some i → inStore s.cfg (wordAt sp k) .word →
         lasts s.cfg (wordAt sp) n k .word → bytesAt t.mem (unitKey s.cfg (wordAt sp k) .word) (s.x i) .word) ∧
       keepsBytes ((wordsFrom n sp).flatMap (fun q => storeKeys s.cfg q.1 q.2)) s t ∧
       keepsRegs [s.sees 13#4] s t ∧ t.spsr = s.spsr ∧ storesReach (blockStores (pushList r list) sp (fun i _ => s.x i)) s t) ∧
    (let n := (lowRegList list).length + if r then 1 else 0
     let vs := (readWords n (s.x 13#4) s).1
     ∃ t, exec (.tPop r list) s = .next t ∧ t.x 13#4 = s.x 13#4 + BitVec.ofNat 32 (4 * n) ∧ t.cpsr = s.cpsr ∧
       (∀ (k : Nat) (i : Reg), (lowRegList list)[k]? = some i → t.x i = vs.getD k 0#32) ∧
       t.pc = (if r then pcMask s.cpsr.t (vs.getD (n - 1) 0#32) else s.pc + 2#32) ∧
       keepsRegs (s.sees 13#4 :: listed s.cpsr.mode (list.setWidth 16)) s t ∧ t.mem = s.mem ∧ keepsSystem s t)

/-- R363, R364: STMIA and LDMIA with writeback: the base stored is the old one when it is first in the list and the final one
otherwise, each word standing in a byte store unless a later one overwrites it and words in the register window being the window's own; a
loaded base wins over the writeback. -/
def Obligations.ThumbBlockTransfer : Prop :=
  ∀ (rb : LowReg) (list : BitVec 8) (s : State),
    let n := (lowRegList list).length
    let base := low rb s
    let final := base + BitVec.ofNat 32 (4 * n)
    (∃ t, exec (.tStmia rb list) s = .next t ∧ low rb t = final ∧ t.pc = s.pc + 2#32 ∧ t.cpsr = s.cpsr ∧
      (∀ (k : Nat) (i : Reg), (lowRegList list)[k]? = some i → inStore s.cfg (wordAt base k) .word →
        lasts s.cfg (wordAt base) n k .word → bytesAt t.mem (unitKey s.cfg (wordAt base k) .word)
          (if i = rb.setWidth 4 ∧ k ≠ 0 then final else s.x i) .word) ∧
      keepsBytes ((wordsFrom n base).flatMap (fun q => storeKeys s.cfg q.1 q.2)) s t ∧
      keepsRegs [s.sees (rb.setWidth 4)] s t ∧ t.spsr = s.spsr ∧
      storesReach (blockStores (lowRegList list) base (fun i k => if i = rb.setWidth 4 ∧ k ≠ 0 then final else s.x i)) s t) ∧
    (let vs := (readWords n base s).1
     ∃ t, exec (.tLdmia rb list) s = .next t ∧ t.pc = s.pc + 2#32 ∧ t.cpsr = s.cpsr ∧
       (∀ (k : Nat) (i : Reg), (lowRegList list)[k]? = some i → t.x i = vs.getD k 0#32) ∧
       (list.getLsbD rb.toNat = false → low rb t = final) ∧
       keepsRegs (s.sees (rb.setWidth 4) :: listed s.cpsr.mode (list.setWidth 16)) s t ∧ t.mem = s.mem ∧ keepsSystem s t)

/-! ## Frames over every instruction -/

/-- Every instruction changes no general register, of any bank, but its destinations: the registers its rule writes, the base or
stack pointer it updates, the link register of a call or of the mode a trap enters. -/
def Obligations.RegisterFrame : Prop :=
  ∀ (i : Instr) (s t : State), exec i s = .next t → keepsRegs (Instr.dests i s) s t

/-- Every instruction leaves every byte of memory as it was but those it stores to: for each address and width it stores, the bytes of
the aligned unit; all of memory for an instruction that stores nothing. -/
def Obligations.MemoryFrame : Prop :=
  ∀ (i : Instr) (s t : State), exec i s = .next t → keepsBytes (Instr.storedKeys i s) s t

/-- Every instruction changes only the bits of the status word that its rule writes. -/
def Obligations.StatusFrame : Prop :=
  ∀ (i : Instr) (s t : State), exec i s = .next t → (Instr.status s.cfg i).keeps s.cpsr t.cpsr

/-- Every instruction leaves the saved status words alone unless it is MSR to the SPSR or a trap; the devices and the host's outputs
unless it stores into the register window; the configuration and the host's pending calls always. No step changes the configuration
but one that makes the call `load_cartridge`. -/
def Obligations.SystemFrame : Prop :=
  (∀ (i : Instr) (s t : State), exec i s = .next t →
    (Instr.status s.cfg i ≠ .entry → (∀ (o : MsrOperand) c fields, i ≠ o.instr c true fields) → t.spsr = s.spsr) ∧
    ((∀ q ∈ Instr.stores i s, ¬ inWindow s.cfg q.1 q.2) → t.dev = s.dev ∧ t.outputs = s.outputs) ∧
    t.cfg = s.cfg ∧ t.inputs = s.inputs) ∧
  (∀ s t : State, (∀ image rest, s.inputs ≠ .loadCartridge image :: rest) → step s = .next t → t.cfg = s.cfg)

/-! ## Devices, reset, the invariant -/

/-- R546: the closed form for a timer that counts alone and does not wrap, and that a count may be split at will. -/
def Obligations.TimerClosedForm : Prop :=
  (∀ (n : Fin 4) (c : Nat) (s : State), s.dev.timersOk s.cfg →
    (s.dev.timers[n.val]).enabled = true → (s.dev.timers[n.val]).cascade = false →
    (∀ m : Fin 4, m ≠ n → (s.dev.timers[m.val]).enabled = false) →
    (s.dev.timers[n.val]).counter.toNat + timerTicks s.cfg s.dev.timers[n.val] c < 2 ^ 16 →
    timersAdvance c s = { s with dev := setTimer n { s.dev.timers[n.val] with
      counter := (s.dev.timers[n.val]).counter + BitVec.ofNat 16 (timerTicks s.cfg s.dev.timers[n.val] c)
      div := BitVec.ofNat 11 (timerDivAfter s.cfg s.dev.timers[n.val] c) } s.dev }) ∧
  (∀ (a b : Nat) (s : State), timersAdvance (a + b) s = timersAdvance b (timersAdvance a s))

/-- R545, R547: one tick. A disabled timer is frozen; otherwise the counter goes up by one, or from 0xFFFF to the reload value with an
overflow output, a request when enabled, and one tick of a next timer in cascade mode. -/
def Obligations.TimerTickRule : Prop :=
  ∀ (n : Fin 4) (s : State),
    let x := s.dev.timers[n.val]
    (x.ctrl.getLsbD 7 = false → timerTick n s = s) ∧
    (x.ctrl.getLsbD 7 = true → x.counter ≠ 0xFFFF#16 →
      timerTick n s = { s with dev := setTimer n { x with counter := x.counter + 1#16 } s.dev }) ∧
    (x.ctrl.getLsbD 7 = true → x.counter = 0xFFFF#16 →
      let d := setTimer n { x with counter := x.reload } s.dev
      let s1 := { s with
        dev := if x.ctrl.getLsbD 6 then { d with ifr := d.ifr ||| (1#16 <<< (s.cfg.irqBit.timer[n.val]).val) } else d
        outputs := s.outputs ++ [.overflow n] }
      (∀ h : n.val < 3, (s.dev.timers[n.val + 1]).ctrl.getLsbD 2 = true →
        timerTick n s = timerTick ⟨n.val + 1, by omega⟩ s1) ∧
      ((n = 3 ∨ ∃ h : n.val < 3, (s.dev.timers[n.val + 1]).ctrl.getLsbD 2 = false) → timerTick n s = s1))

/-- R565, R567 to R569: a run of a channel whose writes stay out of the register window: the number of units (0 is the maximum), both
addresses moved by mode after each unit, active cleared, enable cleared unless it re-arms, the request when asked; nothing else of the
devices and no processor register changes. The units a run stores: no byte outside them changes; the k-th one that no later unit
overwrites holds what a read of the k-th source unit gave before the run, where that unit is plain memory that no earlier unit wrote
(the first unit may come from anywhere). -/
def Obligations.DmaTransfer : Prop :=
  ∀ (ch : Fin 4) (s : State),
    let x := s.dev.dma[ch.val]
    let n := dmaCount s.cfg ch x
    let src := fun k => dmaMoves x.srcMode x.unit k x.src
    let dst := fun k => dmaMoves x.dstMode x.unit k x.dst
    let t := dmaRun ch s
    (∀ k, k < n → ¬ inWindow s.cfg (dst k) x.unit) →
    t.dev.dma[ch.val] = { x with
      src := src n
      dst := dst n
      active := false
      ctrl := if x.ctrl.getLsbD 9 = true ∧ x.ctrl.extractLsb' 12 2 ≠ 0#2 then x.ctrl else x.ctrl &&& 0x7FFF#16 } ∧
    t.dev.ifr = (if x.ctrl.getLsbD 14 then s.dev.ifr ||| (1#16 <<< (s.cfg.irqBit.dma[ch.val]).val) else s.dev.ifr) ∧
    (∀ c' : Fin 4, c' ≠ ch → t.dev.dma[c'.val] = s.dev.dma[c'.val]) ∧
    t.dev.timers = s.dev.timers ∧ t.dev.ie = s.dev.ie ∧ t.dev.ime = s.dev.ime ∧
    t.dev.dispstat = s.dev.dispstat ∧ t.dev.vcount = s.dev.vcount ∧ t.outputs = s.outputs ∧
    t.regs = s.regs ∧ t.pc = s.pc ∧ t.cpsr = s.cpsr ∧ t.spsr = s.spsr ∧ t.cfg = s.cfg ∧ t.inputs = s.inputs ∧
    keepsBytes ((List.range n).flatMap (fun k => storeKeys s.cfg (dst k) x.unit)) s t ∧
    (∀ k, k < n → inStore s.cfg (dst k) x.unit → lasts s.cfg dst n k x.unit →
      (k = 0 ∨ (plain s.cfg (src k) x.unit ∧
        ∀ j, j < k → inStore s.cfg (dst j) x.unit → apart s.cfg (dst j) (src k) x.unit)) →
      bytesAt t.mem (unitKey s.cfg (dst k) x.unit) (memRead (src k) x.unit s).1 x.unit)

/-- R566: `dma_advance` gives each channel its turn, lowest first, from the state the turns before it left, and a channel runs in its
turn exactly when it is then active and enabled; what it returns is the sum over the runs of the cost of each, counted from zero, plus
the overhead. With no active channel it returns 0 and changes nothing; channel 3, which has the last turn, is left inactive. -/
def Obligations.DmaAdvance : Prop :=
  ∀ s : State,
    (∃ u : Fin 5 → State, u 0 = { s with cycles := 0 } ∧ u 4 = dmaAdvance s ∧
      ∀ ch : Fin 4,
        let before := u ch.castSucc
        let x := before.dev.dma[ch.val]
        let ran := dmaRun ch { before with cycles := 0 }
        u ch.succ = if x.active = true ∧ x.ctrl.getLsbD 15 = true then
            { ran with cycles := before.cycles + (ran.cycles + s.cfg.dmaOverheadCycles) }
          else before) ∧
    ((∀ ch : Fin 4, (s.dev.dma[ch.val]).active = false) → dmaAdvance s = { s with cycles := 0 }) ∧
    (s.dev.dmaOk → ((dmaAdvance s).dev.dma[3]).active = false)

/-- R562 to R564, R85: while a channel is active its address and count registers drop writes, and while it is not a write replaces, in the
half it names, the bits its mask enables; a control write activates the channel exactly on a rising enable with the immediate trigger and cancels it on a falling
one; neither changes another channel or another device. A trigger activates exactly the enabled channels that wait for it, and changes no
other bit of any device. -/
def Obligations.DmaControl : Prop :=
  ∀ (ch : Fin 4) (d : Devices),
    let x := d.dma[ch.val]
    (∀ r v mask, x.active = true → dmaWriteReg ch r v mask d = d) ∧
    (x.active = false → ∀ v mask : Half,
      (∀ high : Bool, (dmaWriteReg ch (if high then .srcHi else .srcLo) v mask d).dma[ch.val] =
          { x with src := halfReplaced high x.src (blend mask v (halfOf high x.src)) } ∧
        (dmaWriteReg ch (if high then .dstHi else .dstLo) v mask d).dma[ch.val] =
          { x with dst := halfReplaced high x.dst (blend mask v (halfOf high x.dst)) }) ∧
      (dmaWriteReg ch .count v mask d).dma[ch.val] = { x with count := blend mask v x.count }) ∧
    (∀ r v mask, onlyChannel ch d (dmaWriteReg ch r v mask d)) ∧
    (∀ v : Half, onlyChannel ch d (dmaWriteCtrl ch v d)) ∧
    (∀ t : BitVec 2, dmaTrigger t d = { d with dma := (dmaTrigger t d).dma }) ∧
    (∀ v : Half, (dmaWriteCtrl ch v d).dma[ch.val] = { x with
      ctrl := v
      active := if x.ctrl.getLsbD 15 = false ∧ v.getLsbD 15 = true ∧ v.extractLsb' 12 2 = 0#2 then true
        else if x.ctrl.getLsbD 15 = true ∧ v.getLsbD 15 = false then false else x.active }) ∧
    (∀ t : BitVec 2, (dmaTrigger t d).dma[ch.val] = { x with
      active := x.active || (x.ctrl.getLsbD 15 && decide (x.ctrl.extractLsb' 12 2 = t)) })

/-- R85 to R87, R523 to R525, R541 to R543, R562, R563, R593: in every configuration the spec admits, each offset of the table of R86
names its register and reads as its value, every other offset names none and reads as a draw, and no read changes a device. A halfword
written to IE, DISPSTAT, IME or a timer changes that register alone (a timer's data write its counter too, a control write its divider
where R543 says so), and one to a DMA channel is that channel's own write. In every configuration: a halfword written to a register of the window reads back,
a timer's data register included and a DMA address or count register of an inactive channel; a write to IF clears the bits written as 1;
VCOUNT drops writes; a write to an unrouted offset only goes to the host. R85: a byte read is the named byte of the halfword; a byte write
is a halfword write that keeps the register's other byte (a timer's reload value for its data register), to IF one that acknowledges bits
of its own byte only, to an unrouted offset one with its own byte enable; a word access is two halfword accesses, the low one first. -/
def Obligations.WindowRoundTrip : Prop :=
  (∀ s : State, s.cfg.ok = true → let o := s.cfg.offset
    (∀ p ∈ windowMap o, ioRegAt o p.1 = p.2.1 ∧ ioRead p.1 .half s = ((p.2.2 s.dev).setWidth 32, s)) ∧
    (∀ off, (∀ p ∈ windowMap o, p.1 ≠ off) → ioRegAt o off = .other ∧
      ioRead off .half s = ((Config.ioOtherRead s.draws off).setWidth 32, { s with draws := s.draws + 1 })) ∧
    (∀ h : Half, let v := h.setWidth 32
      ioWrite o.ie .half v s = { s with dev := { s.dev with ie := h } } ∧
      ioWrite o.dispstat .half v s = { s with dev := { s.dev with dispstat := h } } ∧
      ioWrite o.ime .half v s = { s with dev := { s.dev with ime := h } } ∧
      (∀ n : Fin 4, let x := s.dev.timers[n.val]
        let restarts := (x.ctrl.getLsbD 7 = false ∧ h.getLsbD 7 = true) ∨ x.ctrl.toNat % 4 ≠ h.toNat % 4
        let withTimer := fun t : Timer => { s with dev := { s.dev with timers := s.dev.timers.set n.val t n.isLt } }
        ioWrite o.timer[n.val] .half v s = withTimer { x with reload := h, counter := h } ∧
        ioWrite (o.timer[n.val] + 2) .half v s = withTimer { x with
          ctrl := h
          div := if restarts then s.cfg.prescale.toList.getD (h.toNat % 4) 0#11 else x.div }) ∧
      (∀ ch : Fin 4,
        (∀ p ∈ [(0, DmaReg.srcLo), (2, .srcHi), (4, .dstLo), (6, .dstHi), (8, .count)],
          ioWrite (o.dma[ch.val] + p.1) .half v s = { s with dev := dmaWriteReg ch p.2 h 0xFFFF#16 s.dev }) ∧
        ioWrite (o.dma[ch.val] + 10) .half v s = { s with dev := dmaWriteCtrl ch h s.dev }))) ∧
  ∀ (off : Nat) (v : Word) (s : State),
    (ioRegAt s.cfg.offset off ≠ .ifr → ioRegAt s.cfg.offset off ≠ .vcount → ioRegAt s.cfg.offset off ≠ .other →
      (∀ ch r, ioRegAt s.cfg.offset off = .dmaReg ch r → (s.dev.dma[ch.val]).active = false) →
      (ioRead off .half (ioWrite off .half v s)).1 = v &&& 0x0000FFFF#32) ∧
    (ioRegAt s.cfg.offset off = .ifr → ioWrite off .half v s = { s with dev := { s.dev with ifr := s.dev.ifr &&& ~~~(v.setWidth 16) } }) ∧
    (ioRegAt s.cfg.offset off = .vcount → ioWrite off .half v s = s) ∧
    (ioRegAt s.cfg.offset off = .other →
      ioWrite off .half v s = { s with outputs := s.outputs ++ [.unroutedWrite off (v.setWidth 16) 0b11#2] }) ∧
    (let e := off - off % 2
     let h := ioRead e .half s
     let r := ioRegAt s.cfg.offset e
     ioRead off .byte s = ((if off % 2 = 1 then h.1 >>> 8 else h.1) &&& 0x000000FF#32, h.2) ∧
     (r = .ifr → ioWrite off .byte v s = ioWrite e .half (placedByte off v) s) ∧
     (r = .vcount → ioWrite off .byte v s = s) ∧
     (r = .other → ioWrite off .byte v s = { s with
       outputs := s.outputs ++ [.unroutedWrite e ((placedByte off v).setWidth 16) (if off % 2 = 1 then 0b10#2 else 0b01#2)] }) ∧
     (∀ n, r = .timerData n →
       ioWrite off .byte v s = ioWrite e .half (withByte off ((s.dev.timers[n.val]).reload.setWidth 32) v) s) ∧
     (r ≠ .ifr → r ≠ .vcount → r ≠ .other → (∀ n, r ≠ .timerData n) →
       ioWrite off .byte v s = ioWrite e .half (withByte off h.1 v) s)) ∧
    (let lower := ioRead off .half s
     let upper := ioRead (off + 2) .half lower.2
     ioRead off .word s = (BitVec.ofNat 32 (lower.1.toNat + upper.1.toNat * 2 ^ 16), upper.2) ∧
     ioWrite off .word v s = ioWrite (off + 2) .half (v >>> 16) (ioWrite off .half v s))

/-- R590 to R596: a pending host call is made before anything else (log 6); the VBlank and HBlank signals request an interrupt exactly
when DISPSTAT bit 3 or 4 allows it and trigger the waiting channels; the special DMA signal activates its channel exactly when that is
enabled and waits for it; `irq_raise` sets its bit; `host_set_display` writes the three flags and VCOUNT; `load_cartridge` replaces the
image and its length and sends `pc` to the entry point, whenever it is called (log 32); any other length is refused (log 15). -/
def Obligations.HostSignals : Prop :=
  ∀ (s : State) (rest : List HostCall),
    let s0 := { s with inputs := rest, cycles := 0, outputs := [] }
    step { s with inputs := .signalVblankStart :: rest } = .next { s0 with dev := dmaTrigger 1#2 { s.dev with
      ifr := if s.dev.dispstat.getLsbD 3 then s.dev.ifr ||| (1#16 <<< s.cfg.irqBit.vblank.val) else s.dev.ifr } } ∧
    step { s with inputs := .signalHblankStart :: rest } = .next { s0 with dev := dmaTrigger 2#2 { s.dev with
      ifr := if s.dev.dispstat.getLsbD 4 then s.dev.ifr ||| (1#16 <<< s.cfg.irqBit.hblank.val) else s.dev.ifr } } ∧
    (∀ ch : Fin 4, let x := s.dev.dma[ch.val]
      ∃ t, step { s with inputs := .signalDmaSpecial ch :: rest } = .next t ∧
        t.dev.dma[ch.val] = { x with
          active := x.active || (x.ctrl.getLsbD 15 && decide (x.ctrl.extractLsb' 12 2 = 3#2)) } ∧
        (∀ c' : Fin 4, c' ≠ ch → t.dev.dma[c'.val] = s.dev.dma[c'.val]) ∧
        t = { s0 with dev := { s.dev with dma := t.dev.dma } }) ∧
    (∀ k : Fin 16, ∃ t, step { s with inputs := .irqRaise k :: rest } = .next t ∧
      (∀ j : Fin 16, t.dev.ifr.getLsbD j.val = (s.dev.ifr.getLsbD j.val || decide (j = k))) ∧
      t = { s0 with dev := { s.dev with ifr := t.dev.ifr } }) ∧
    (∀ (flags : BitVec 3) (line : Half), ∃ t, step { s with inputs := .hostSetDisplay flags line :: rest } = .next t ∧
      t.dev.vcount = line ∧ t.dev.dispstat.extractLsb' 0 3 = flags ∧
      t.dev.dispstat.extractLsb' 3 13 = s.dev.dispstat.extractLsb' 3 13 ∧
      t = { s0 with dev := { s.dev with dispstat := t.dev.dispstat, vcount := line } }) ∧
    (∀ image : List Byte,
      let fits := image.length ≠ 0 ∧ image.length % 4 = 0 ∧ image.length ≤ 0x02000000
      let base := (s.cfg.regionOfKind .cartImage).base
      (fits → ∃ t, step { s with inputs := .loadCartridge image :: rest } = .next t ∧
        (∀ j, j < image.length → memGet t.mem (base + j) = image.getD j 0#8) ∧
        (∀ k, (k < base ∨ base + image.length ≤ k) → memGet t.mem k =
          if (regionAt s.cfg.regions k).kind = .cartImage then Config.unlistedByte else memGet s.mem k) ∧
        t = { s0 with mem := t.mem, cfg := s.cfg.setCartLen image.length, pc := s.cfg.entry }) ∧
      (¬ fits → step { s with inputs := .loadCartridge image :: rest } = .refused .cartridgeLength))

/-- R600, R603: what reset fixes, in the initial state of a configuration and by the host's call, which also keeps the configuration and
the two images: the entry point, Supervisor mode (the configuration's), T clear, I and F set, every device register zero, each divider
at one full period of prescaler 0, no last access. That the call keeps the configuration is the model's reading (log 14). -/
def Obligations.ResetState : Prop :=
  (∀ (c : Cfg) (t : State), (t = State.resetWith c ∨ ∃ s : State, s.cfg = c ∧ hostCall .reset s = .next t) →
    t.pc = c.entry ∧ t.cpsr.mode = c.resetMode ∧ t.cpsr.t = false ∧ t.cpsr.i = true ∧ t.cpsr.f = true ∧
    t.dev.ie = 0#16 ∧ t.dev.ifr = 0#16 ∧ t.dev.ime = 0#16 ∧ t.dev.dispstat = 0#16 ∧ t.dev.vcount = 0#16 ∧
    (∀ n : Fin 4, t.dev.timers[n.val] = { counter := 0#16, reload := 0#16, ctrl := 0#16, div := c.prescale[0] }) ∧
    (∀ ch : Fin 4, t.dev.dma[ch.val] = { src := 0#32, dst := 0#32, count := 0#16, ctrl := 0#16, active := false }) ∧
    t.busLast = none ∧ t.cfg = c) ∧
  (∀ s : State, ∃ t, hostCall .reset s = .next t ∧
    (∀ k, (regionAt s.cfg.regions k).kind.isImage = true → memGet t.mem k = memGet s.mem k)) ∧
  State.reset.pc = 0x08000000#32 ∧ State.reset.cpsr.mode = .svc

/-- The invariant holds right after reset, in every configuration the spec admits; the default is one (with the model's choices of logs
2 and 5). -/
def Obligations.InvariantAtReset : Prop := (∀ c : Cfg, c.ok = true → State.Inv (State.resetWith c)) ∧ State.Inv State.reset

/-- R26, R546, R563, R567 and the canonical form of memory: from every state that meets the invariant, a step, whatever host call or
instruction it makes, gives a state that meets it. -/
def Obligations.InvariantKept : Prop :=
  ∀ s t : State, State.Inv s → step s = .next t → State.Inv t
end

