-- ==== Sys2Proof/Laws/State.lean ====
section
/-! SUPPORT. One lemma per field per update of the state: which fields an operation leaves as they are, and what the others become. -/

namespace Sys2Proof.Machine

/-! ## Replacing the status word -/

@[simp] theorem mapCpsr_regs (f : Cpsr → Cpsr) (s : State) : (s.mapCpsr f).regs = s.regs := rfl
@[simp] theorem mapCpsr_pc (f : Cpsr → Cpsr) (s : State) : (s.mapCpsr f).pc = s.pc := rfl
@[simp] theorem mapCpsr_spsr (f : Cpsr → Cpsr) (s : State) : (s.mapCpsr f).spsr = s.spsr := rfl
@[simp] theorem mapCpsr_dev (f : Cpsr → Cpsr) (s : State) : (s.mapCpsr f).dev = s.dev := rfl
@[simp] theorem mapCpsr_mem (f : Cpsr → Cpsr) (s : State) : (s.mapCpsr f).mem = s.mem := rfl
@[simp] theorem mapCpsr_cfg (f : Cpsr → Cpsr) (s : State) : (s.mapCpsr f).cfg = s.cfg := rfl
@[simp] theorem mapCpsr_busLast (f : Cpsr → Cpsr) (s : State) : (s.mapCpsr f).busLast = s.busLast := rfl
@[simp] theorem mapCpsr_cycles (f : Cpsr → Cpsr) (s : State) : (s.mapCpsr f).cycles = s.cycles := rfl
@[simp] theorem mapCpsr_outputs (f : Cpsr → Cpsr) (s : State) : (s.mapCpsr f).outputs = s.outputs := rfl
@[simp] theorem mapCpsr_draws (f : Cpsr → Cpsr) (s : State) : (s.mapCpsr f).draws = s.draws := rfl
@[simp] theorem mapCpsr_inputs (f : Cpsr → Cpsr) (s : State) : (s.mapCpsr f).inputs = s.inputs := rfl
@[simp] theorem mapCpsr_cpsr (f : Cpsr → Cpsr) (s : State) : (s.mapCpsr f).cpsr = f s.cpsr := rfl

/-! ## Writing a register -/

@[simp] theorem setXIn_pc (m : Mode) (i : Reg) (v : Word) (s : State) : (s.setXIn m i v).pc = s.pc := by unfold State.setXIn; split <;> rfl
@[simp] theorem setXIn_cpsr (m : Mode) (i : Reg) (v : Word) (s : State) : (s.setXIn m i v).cpsr = s.cpsr := by unfold State.setXIn; split <;> rfl
@[simp] theorem setXIn_spsr (m : Mode) (i : Reg) (v : Word) (s : State) : (s.setXIn m i v).spsr = s.spsr := by unfold State.setXIn; split <;> rfl
@[simp] theorem setXIn_dev (m : Mode) (i : Reg) (v : Word) (s : State) : (s.setXIn m i v).dev = s.dev := by unfold State.setXIn; split <;> rfl
@[simp] theorem setXIn_mem (m : Mode) (i : Reg) (v : Word) (s : State) : (s.setXIn m i v).mem = s.mem := by unfold State.setXIn; split <;> rfl
@[simp] theorem setXIn_cfg (m : Mode) (i : Reg) (v : Word) (s : State) : (s.setXIn m i v).cfg = s.cfg := by unfold State.setXIn; split <;> rfl
@[simp] theorem setXIn_busLast (m : Mode) (i : Reg) (v : Word) (s : State) : (s.setXIn m i v).busLast = s.busLast := by unfold State.setXIn; split <;> rfl
@[simp] theorem setXIn_cycles (m : Mode) (i : Reg) (v : Word) (s : State) : (s.setXIn m i v).cycles = s.cycles := by unfold State.setXIn; split <;> rfl
@[simp] theorem setXIn_outputs (m : Mode) (i : Reg) (v : Word) (s : State) : (s.setXIn m i v).outputs = s.outputs := by unfold State.setXIn; split <;> rfl
@[simp] theorem setXIn_draws (m : Mode) (i : Reg) (v : Word) (s : State) : (s.setXIn m i v).draws = s.draws := by unfold State.setXIn; split <;> rfl
@[simp] theorem setXIn_inputs (m : Mode) (i : Reg) (v : Word) (s : State) : (s.setXIn m i v).inputs = s.inputs := by unfold State.setXIn; split <;> rfl

@[simp] theorem setX_pc (i : Reg) (v : Word) (s : State) : (s.setX i v).pc = s.pc := setXIn_pc _ _ _ _
@[simp] theorem setX_cpsr (i : Reg) (v : Word) (s : State) : (s.setX i v).cpsr = s.cpsr := setXIn_cpsr _ _ _ _
@[simp] theorem setX_spsr (i : Reg) (v : Word) (s : State) : (s.setX i v).spsr = s.spsr := setXIn_spsr _ _ _ _
@[simp] theorem setX_dev (i : Reg) (v : Word) (s : State) : (s.setX i v).dev = s.dev := setXIn_dev _ _ _ _
@[simp] theorem setX_mem (i : Reg) (v : Word) (s : State) : (s.setX i v).mem = s.mem := setXIn_mem _ _ _ _
@[simp] theorem setX_cfg (i : Reg) (v : Word) (s : State) : (s.setX i v).cfg = s.cfg := setXIn_cfg _ _ _ _
@[simp] theorem setX_busLast (i : Reg) (v : Word) (s : State) : (s.setX i v).busLast = s.busLast := setXIn_busLast _ _ _ _
@[simp] theorem setX_cycles (i : Reg) (v : Word) (s : State) : (s.setX i v).cycles = s.cycles := setXIn_cycles _ _ _ _
@[simp] theorem setX_outputs (i : Reg) (v : Word) (s : State) : (s.setX i v).outputs = s.outputs := setXIn_outputs _ _ _ _
@[simp] theorem setX_draws (i : Reg) (v : Word) (s : State) : (s.setX i v).draws = s.draws := setXIn_draws _ _ _ _
@[simp] theorem setX_inputs (i : Reg) (v : Word) (s : State) : (s.setX i v).inputs = s.inputs := setXIn_inputs _ _ _ _

@[simp] theorem setXUsr_pc (i : Reg) (v : Word) (s : State) : (s.setXUsr i v).pc = s.pc := setXIn_pc _ _ _ _
@[simp] theorem setXUsr_cpsr (i : Reg) (v : Word) (s : State) : (s.setXUsr i v).cpsr = s.cpsr := setXIn_cpsr _ _ _ _
@[simp] theorem setXUsr_spsr (i : Reg) (v : Word) (s : State) : (s.setXUsr i v).spsr = s.spsr := setXIn_spsr _ _ _ _
@[simp] theorem setXUsr_dev (i : Reg) (v : Word) (s : State) : (s.setXUsr i v).dev = s.dev := setXIn_dev _ _ _ _
@[simp] theorem setXUsr_mem (i : Reg) (v : Word) (s : State) : (s.setXUsr i v).mem = s.mem := setXIn_mem _ _ _ _
@[simp] theorem setXUsr_cfg (i : Reg) (v : Word) (s : State) : (s.setXUsr i v).cfg = s.cfg := setXIn_cfg _ _ _ _
@[simp] theorem setXUsr_busLast (i : Reg) (v : Word) (s : State) : (s.setXUsr i v).busLast = s.busLast := setXIn_busLast _ _ _ _
@[simp] theorem setXUsr_cycles (i : Reg) (v : Word) (s : State) : (s.setXUsr i v).cycles = s.cycles := setXIn_cycles _ _ _ _
@[simp] theorem setXUsr_outputs (i : Reg) (v : Word) (s : State) : (s.setXUsr i v).outputs = s.outputs := setXIn_outputs _ _ _ _
@[simp] theorem setXUsr_draws (i : Reg) (v : Word) (s : State) : (s.setXUsr i v).draws = s.draws := setXIn_draws _ _ _ _
@[simp] theorem setXUsr_inputs (i : Reg) (v : Word) (s : State) : (s.setXUsr i v).inputs = s.inputs := setXIn_inputs _ _ _ _

/-! ## The program counter -/

@[simp] theorem branchTo_regs (v : Word) (s : State) : (branchTo v s).regs = s.regs := rfl
@[simp] theorem branchTo_cpsr (v : Word) (s : State) : (branchTo v s).cpsr = s.cpsr := rfl
@[simp] theorem branchTo_spsr (v : Word) (s : State) : (branchTo v s).spsr = s.spsr := rfl
@[simp] theorem branchTo_dev (v : Word) (s : State) : (branchTo v s).dev = s.dev := rfl
@[simp] theorem branchTo_mem (v : Word) (s : State) : (branchTo v s).mem = s.mem := rfl
@[simp] theorem branchTo_cfg (v : Word) (s : State) : (branchTo v s).cfg = s.cfg := rfl
@[simp] theorem branchTo_busLast (v : Word) (s : State) : (branchTo v s).busLast = s.busLast := rfl
@[simp] theorem branchTo_cycles (v : Word) (s : State) : (branchTo v s).cycles = s.cycles := rfl
@[simp] theorem branchTo_outputs (v : Word) (s : State) : (branchTo v s).outputs = s.outputs := rfl
@[simp] theorem branchTo_draws (v : Word) (s : State) : (branchTo v s).draws = s.draws := rfl
@[simp] theorem branchTo_inputs (v : Word) (s : State) : (branchTo v s).inputs = s.inputs := rfl
theorem branchTo_pc (v : Word) (s : State) : (branchTo v s).pc = if s.cpsr.t then v &&& 0xFFFFFFFE#32 else v &&& 0xFFFFFFFC#32 := rfl

@[simp] theorem writeReg_cpsr (d : Reg) (v : Word) (s : State) : (writeReg d v s).cpsr = s.cpsr := by unfold writeReg; split <;> simp
@[simp] theorem writeReg_spsr (d : Reg) (v : Word) (s : State) : (writeReg d v s).spsr = s.spsr := by unfold writeReg; split <;> simp
@[simp] theorem writeReg_dev (d : Reg) (v : Word) (s : State) : (writeReg d v s).dev = s.dev := by unfold writeReg; split <;> simp
@[simp] theorem writeReg_mem (d : Reg) (v : Word) (s : State) : (writeReg d v s).mem = s.mem := by unfold writeReg; split <;> simp
@[simp] theorem writeReg_cfg (d : Reg) (v : Word) (s : State) : (writeReg d v s).cfg = s.cfg := by unfold writeReg; split <;> simp
@[simp] theorem writeReg_busLast (d : Reg) (v : Word) (s : State) : (writeReg d v s).busLast = s.busLast := by unfold writeReg; split <;> simp
@[simp] theorem writeReg_cycles (d : Reg) (v : Word) (s : State) : (writeReg d v s).cycles = s.cycles := by unfold writeReg; split <;> simp
@[simp] theorem writeReg_outputs (d : Reg) (v : Word) (s : State) : (writeReg d v s).outputs = s.outputs := by unfold writeReg; split <;> simp
@[simp] theorem writeReg_draws (d : Reg) (v : Word) (s : State) : (writeReg d v s).draws = s.draws := by unfold writeReg; split <;> simp
@[simp] theorem writeReg_inputs (d : Reg) (v : Word) (s : State) : (writeReg d v s).inputs = s.inputs := by unfold writeReg; split <;> simp
theorem writeReg_of_ne (d : Reg) (v : Word) (s : State) (h : d ≠ 15#4) : writeReg d v s = s.setX d v := if_neg h
theorem writeReg_pc (v : Word) (s : State) : writeReg 15#4 v s = branchTo v s := rfl

/-! ## Access accounting and the start of a step -/

@[simp] theorem noteAccess_regs (a : Word) (n : Width) (s : State) : (noteAccess a n s).regs = s.regs := rfl
@[simp] theorem noteAccess_pc (a : Word) (n : Width) (s : State) : (noteAccess a n s).pc = s.pc := rfl
@[simp] theorem noteAccess_cpsr (a : Word) (n : Width) (s : State) : (noteAccess a n s).cpsr = s.cpsr := rfl
@[simp] theorem noteAccess_spsr (a : Word) (n : Width) (s : State) : (noteAccess a n s).spsr = s.spsr := rfl
@[simp] theorem noteAccess_dev (a : Word) (n : Width) (s : State) : (noteAccess a n s).dev = s.dev := rfl
@[simp] theorem noteAccess_mem (a : Word) (n : Width) (s : State) : (noteAccess a n s).mem = s.mem := rfl
@[simp] theorem noteAccess_cfg (a : Word) (n : Width) (s : State) : (noteAccess a n s).cfg = s.cfg := rfl
@[simp] theorem noteAccess_outputs (a : Word) (n : Width) (s : State) : (noteAccess a n s).outputs = s.outputs := rfl
@[simp] theorem noteAccess_draws (a : Word) (n : Width) (s : State) : (noteAccess a n s).draws = s.draws := rfl
@[simp] theorem noteAccess_inputs (a : Word) (n : Width) (s : State) : (noteAccess a n s).inputs = s.inputs := rfl
theorem noteAccess_busLast (a : Word) (n : Width) (s : State) : (noteAccess a n s).busLast = some (a, n) := rfl
theorem noteAccess_cycles (a : Word) (n : Width) (s : State) :
    (noteAccess a n s).cycles = s.cycles + accessCycles (regionOf s.cfg a) n (isSequential s.busLast a n) := rfl

@[simp] theorem beginStep_regs (s : State) : (beginStep s).regs = s.regs := rfl
@[simp] theorem beginStep_pc (s : State) : (beginStep s).pc = s.pc := rfl
@[simp] theorem beginStep_cpsr (s : State) : (beginStep s).cpsr = s.cpsr := rfl
@[simp] theorem beginStep_spsr (s : State) : (beginStep s).spsr = s.spsr := rfl
@[simp] theorem beginStep_dev (s : State) : (beginStep s).dev = s.dev := rfl
@[simp] theorem beginStep_mem (s : State) : (beginStep s).mem = s.mem := rfl
@[simp] theorem beginStep_cfg (s : State) : (beginStep s).cfg = s.cfg := rfl
@[simp] theorem beginStep_busLast (s : State) : (beginStep s).busLast = s.busLast := rfl
@[simp] theorem beginStep_draws (s : State) : (beginStep s).draws = s.draws := rfl
@[simp] theorem beginStep_inputs (s : State) : (beginStep s).inputs = s.inputs := rfl
@[simp] theorem beginStep_cycles (s : State) : (beginStep s).cycles = 0 := rfl
@[simp] theorem beginStep_outputs (s : State) : (beginStep s).outputs = [] := rfl

/-! ## Exception entry -/

@[simp] theorem enterException_dev (m : Mode) (vec ret : Word) (s : State) : (enterException m vec ret s).dev = s.dev := by simp [enterException]
@[simp] theorem enterException_mem (m : Mode) (vec ret : Word) (s : State) : (enterException m vec ret s).mem = s.mem := by simp [enterException]
@[simp] theorem enterException_cfg (m : Mode) (vec ret : Word) (s : State) : (enterException m vec ret s).cfg = s.cfg := by simp [enterException]
@[simp] theorem enterException_busLast (m : Mode) (vec ret : Word) (s : State) : (enterException m vec ret s).busLast = s.busLast := by simp [enterException]
@[simp] theorem enterException_cycles (m : Mode) (vec ret : Word) (s : State) : (enterException m vec ret s).cycles = s.cycles := by simp [enterException]
@[simp] theorem enterException_outputs (m : Mode) (vec ret : Word) (s : State) : (enterException m vec ret s).outputs = s.outputs := by simp [enterException]
@[simp] theorem enterException_draws (m : Mode) (vec ret : Word) (s : State) : (enterException m vec ret s).draws = s.draws := by simp [enterException]
@[simp] theorem enterException_inputs (m : Mode) (vec ret : Word) (s : State) : (enterException m vec ret s).inputs = s.inputs := by simp [enterException]
@[simp] theorem enterException_pc (m : Mode) (vec ret : Word) (s : State) : (enterException m vec ret s).pc = vec := rfl
@[simp] theorem enterException_cpsr (m : Mode) (vec ret : Word) (s : State) :
    (enterException m vec ret s).cpsr = { s.cpsr with mode := m, t := false, i := true } := by simp [enterException]
@[simp] theorem enterException_spsr (m : Mode) (vec ret : Word) (s : State) :
    (enterException m vec ret s).spsr = setSpsrOf m (psrOfCpsr s.cpsr) s.spsr := by simp [enterException]

/-! ## Devices -/

@[simp] theorem setTimer_ie (n : Fin 4) (t : Timer) (d : Devices) : (setTimer n t d).ie = d.ie := rfl
@[simp] theorem setTimer_ifr (n : Fin 4) (t : Timer) (d : Devices) : (setTimer n t d).ifr = d.ifr := rfl
@[simp] theorem setTimer_ime (n : Fin 4) (t : Timer) (d : Devices) : (setTimer n t d).ime = d.ime := rfl
@[simp] theorem setTimer_dma (n : Fin 4) (t : Timer) (d : Devices) : (setTimer n t d).dma = d.dma := rfl
@[simp] theorem setTimer_dispstat (n : Fin 4) (t : Timer) (d : Devices) : (setTimer n t d).dispstat = d.dispstat := rfl
@[simp] theorem setTimer_vcount (n : Fin 4) (t : Timer) (d : Devices) : (setTimer n t d).vcount = d.vcount := rfl

@[simp] theorem setDma_ie (n : Fin 4) (t : DmaChannel) (d : Devices) : (setDma n t d).ie = d.ie := rfl
@[simp] theorem setDma_ifr (n : Fin 4) (t : DmaChannel) (d : Devices) : (setDma n t d).ifr = d.ifr := rfl
@[simp] theorem setDma_ime (n : Fin 4) (t : DmaChannel) (d : Devices) : (setDma n t d).ime = d.ime := rfl
@[simp] theorem setDma_timers (n : Fin 4) (t : DmaChannel) (d : Devices) : (setDma n t d).timers = d.timers := rfl
@[simp] theorem setDma_dispstat (n : Fin 4) (t : DmaChannel) (d : Devices) : (setDma n t d).dispstat = d.dispstat := rfl
@[simp] theorem setDma_vcount (n : Fin 4) (t : DmaChannel) (d : Devices) : (setDma n t d).vcount = d.vcount := rfl

@[simp] theorem setRequest_ie (k : Fin 16) (d : Devices) : (setRequest k d).ie = d.ie := rfl
@[simp] theorem setRequest_ime (k : Fin 16) (d : Devices) : (setRequest k d).ime = d.ime := rfl
@[simp] theorem setRequest_timers (k : Fin 16) (d : Devices) : (setRequest k d).timers = d.timers := rfl
@[simp] theorem setRequest_dma (k : Fin 16) (d : Devices) : (setRequest k d).dma = d.dma := rfl
@[simp] theorem setRequest_dispstat (k : Fin 16) (d : Devices) : (setRequest k d).dispstat = d.dispstat := rfl
@[simp] theorem setRequest_vcount (k : Fin 16) (d : Devices) : (setRequest k d).vcount = d.vcount := rfl

@[simp] theorem setTimer_timers_self (n : Fin 4) (t : Timer) (d : Devices) : (setTimer n t d).timers[n.val] = t := by
  simp [setTimer]

theorem setTimer_timers_ne (n m : Fin 4) (t : Timer) (d : Devices) (h : n ≠ m) :
    (setTimer n t d).timers[m.val] = d.timers[m.val] := by
  have : n.val ≠ m.val := fun e => h (Fin.ext e)
  simp [setTimer, this]

@[simp] theorem setDma_dma_self (n : Fin 4) (t : DmaChannel) (d : Devices) : (setDma n t d).dma[n.val] = t := by
  simp [setDma]

theorem setDma_dma_ne (n m : Fin 4) (t : DmaChannel) (d : Devices) (h : n ≠ m) :
    (setDma n t d).dma[m.val] = d.dma[m.val] := by
  have : n.val ≠ m.val := fun e => h (Fin.ext e)
  simp [setDma, this]

end Sys2Proof.Machine
end

