-- ==== Sys2Proof/Laws/Memory.lean ====
section
/-! SUPPORT. The byte stores: a read after a write, the canonical form under every memory operation, and what the two memory
primitives and the register window leave unchanged. -/

namespace Sys2Proof.Machine

/-! ## One byte -/

theorem memGet_filter (p : Nat → Bool) (m : List Host.Cell) (a : Nat) :
    memGet (m.filter (fun c => p c.1)) a = if p a then memGet m a else Config.unlistedByte := by
  induction m with
  | nil => simp [memGet]
  | cons c rest ih =>
    obtain ⟨k, b⟩ := c
    by_cases h : k = a
    · subst h; by_cases hp : p k <;> simp [memGet, hp, ih]
    · by_cases hp : p k <;> simp [memGet, hp, ih, h]

theorem memGet_memPut (m : List Host.Cell) (a k : Nat) (v : Byte) : memGet (memPut m a v) k = if k = a then v else memGet m k := by
  have cons : ∀ (a : Nat) (v : Byte) (r : List Host.Cell), memGet ((a, v) :: r) k = if k = a then v else memGet r k := by
    intro a v r; simp only [memGet, eq_comm]
  induction m with
  | nil => exact cons a v []
  | cons c rest ih =>
    obtain ⟨k', b⟩ := c
    simp only [memPut]
    split
    · exact cons a v _
    · split
      · subst_vars; simp only [cons]; by_cases h : k = k' <;> simp [h]
      · simp only [cons, ih]; by_cases h : k = k' <;> by_cases h' : k = a <;> simp_all

/-- A read after a write, of the same byte or of another. -/
@[simp] theorem memGet_memSet (m : List Host.Cell) (a k : Nat) (v : Byte) :
    memGet (memSet m a v) k = if k = a then v else memGet m k := by
  unfold memSet
  split
  · rw [memGet_filter (fun k => k != a)]; by_cases h : k = a <;> simp_all
  · exact memGet_memPut m a k v

/-! ## The canonical form -/

theorem memWfAbove_filter (p : Nat → Bool) (lo : Nat) (m : List Host.Cell) (h : memWfAbove lo m = true) :
    memWfAbove lo (m.filter (fun c => p c.1)) = true := by
  induction m generalizing lo with
  | nil => rfl
  | cons c rest ih =>
    obtain ⟨k, b⟩ := c
    simp only [memWfAbove, Bool.and_eq_true, decide_eq_true_eq] at h
    have low : ∀ lo', lo' ≤ k → memWfAbove lo' rest = true := by
      intro lo' hle
      have := h.2
      cases rest with
      | nil => rfl
      | cons c' r => obtain ⟨k', b'⟩ := c'; simp only [memWfAbove, Bool.and_eq_true, decide_eq_true_eq] at *; exact ⟨⟨by omega, this.1.2⟩, this.2⟩
    by_cases hp : p k
    · simp [hp, memWfAbove, h.1.1, ih k h.2]; simpa using h.1.2
    · simp only [List.filter_cons, hp]; exact ih lo (low lo (by omega))

theorem memWfAbove_memPut (m : List Host.Cell) (lo a : Nat) (v : Byte) (hv : v ≠ Config.unlistedByte) (ha : lo < a)
    (h : memWfAbove lo m = true) : memWfAbove lo (memPut m a v) = true := by
  induction m generalizing lo with
  | nil => simp [memPut, memWfAbove, ha, hv]
  | cons c rest ih =>
    obtain ⟨k, b⟩ := c
    simp only [memWfAbove, Bool.and_eq_true, decide_eq_true_eq] at h
    simp only [memPut]
    split
    · simp_all [memWfAbove]
    · split
      · simp_all [memWfAbove]
      · simp only [memWfAbove, Bool.and_eq_true, decide_eq_true_eq]
        exact ⟨h.1, ih k (by omega) h.2⟩

theorem memWf_iff (m : List Host.Cell) : memWf m = true ↔ ∀ k b rest, m = (k, b) :: rest → (b ≠ Config.unlistedByte ∧ memWfAbove k rest = true) := by
  cases m with
  | nil => simp [memWf]
  | cons c rest => obtain ⟨k, b⟩ := c; simp [memWf]

theorem memWf_of_above (lo : Nat) (m : List Host.Cell) (h : memWfAbove lo m = true) : memWf m = true := by
  cases m with
  | nil => rfl
  | cons c rest => obtain ⟨k, b⟩ := c; simp_all [memWf, memWfAbove]

theorem memWf_filter (p : Nat → Bool) (m : List Host.Cell) (h : memWf m = true) : memWf (m.filter (fun c => p c.1)) = true := by
  cases m with
  | nil => rfl
  | cons c rest =>
    obtain ⟨k, b⟩ := c
    simp only [memWf, Bool.and_eq_true] at h
    by_cases hp : p k
    · simp only [List.filter_cons, hp, if_true, memWf, Bool.and_eq_true]; exact ⟨h.1, memWfAbove_filter p k rest h.2⟩
    · simp only [List.filter_cons, hp]; exact memWf_of_above k _ (memWfAbove_filter p k rest h.2)

/-- Writing one byte keeps the canonical form. -/
theorem memWf_memSet (m : List Host.Cell) (a : Nat) (v : Byte) (h : memWf m = true) : memWf (memSet m a v) = true := by
  unfold memSet
  split
  · exact memWf_filter (fun k => k != a) m h
  · rename_i hv
    cases m with
    | nil => simp [memPut, memWf, memWfAbove, hv]
    | cons c rest =>
      obtain ⟨k, b⟩ := c
      simp only [memWf, Bool.and_eq_true] at h
      simp only [memPut]
      split
      · simp_all [memWf, memWfAbove]
      · split
        · simp_all [memWf]
        · simp only [memWf, Bool.and_eq_true]
          exact ⟨h.1, memWfAbove_memPut rest k a v hv (by omega) h.2⟩

/-- Storing a value keeps the canonical form. -/
theorem memWf_storeBytes (m : List Host.Cell) (key : Nat) (v : Word) (n : Width) (h : memWf m = true) :
    memWf (storeBytes m key v n) = true := by
  cases n <;> simp only [storeBytes] <;> repeat (first | apply memWf_memSet | exact h)

/-- Placing an image keeps the canonical form. -/
theorem memWf_placeBytes (bs : List Byte) (k : Nat) (m : List Host.Cell) (h : memWf m = true) : memWf (placeBytes bs k m) = true := by
  induction bs generalizing k m with
  | nil => exact h
  | cons b bs ih => exact ih (k + 1) _ (memWf_memSet m k b h)

/-- Memory right after reset is in canonical form. -/
theorem memWf_reset : memWf State.reset.mem = true := rfl

/-! ## The register window -/

/-- A window read changes the state only by counting draws. -/
theorem ioRead_state (off : Nat) (n : Width) (s : State) : ∃ d, (ioRead off n s).2 = { s with draws := d } := by
  have h16 : ∀ (o : Nat) (u : State), ∃ d, (ioRead16 o u).2 = { u with draws := d } := by
    intro o u; unfold ioRead16; split
    · exact ⟨u.draws, rfl⟩
    · exact ⟨_, rfl⟩
  cases n with
  | byte => exact h16 _ s
  | half => exact h16 _ s
  | word =>
    obtain ⟨d, hd⟩ := h16 off s
    obtain ⟨e, he⟩ := h16 (off + 2) { s with draws := d }
    refine ⟨e, ?_⟩
    simp only [ioRead, hd, he]

/-- A window write changes the devices and the outputs only. -/
theorem ioWrite16_state (off : Nat) (v : Half) (be : BitVec 2) (s : State) :
    ∃ d o, ioWrite16 off v be s = { s with dev := d, outputs := o } := by
  unfold ioWrite16; split
  · exact ⟨s.dev, _, rfl⟩
  · exact ⟨_, s.outputs, rfl⟩

/-- A window write of any width changes the devices and the outputs only. -/
theorem ioWrite_state (off : Nat) (n : Width) (v : Word) (s : State) : ∃ d o, ioWrite off n v s = { s with dev := d, outputs := o } := by
  cases n with
  | byte => exact ioWrite16_state _ _ _ s
  | half => exact ioWrite16_state _ _ _ s
  | word =>
    obtain ⟨d, o, h⟩ := ioWrite16_state off (v.extractLsb' 0 16) 0b11#2 s
    obtain ⟨d', o', h'⟩ := ioWrite16_state (off + 2) (v.extractLsb' 16 16) 0b11#2 { s with dev := d, outputs := o }
    exact ⟨d', o', by simp only [ioWrite, h, h']⟩

/-! ## The two primitives -/

/-- Everything a read can change: cost, last access, draws. -/
theorem memRead_state (a : Word) (n : Width) (s : State) :
    ∃ c d, (memRead a n s).2 = { s with cycles := c, busLast := some (alignDown a n, n), draws := d } := by
  unfold memRead
  simp only
  split
  · exact ⟨_, _, rfl⟩
  · obtain ⟨d, h⟩ := ioRead_state (offsetOf (noteAccess (alignDown a n) n s).cfg (alignDown a n)) n (noteAccess (alignDown a n) n s)
    exact ⟨_, d, h⟩
  · exact ⟨_, s.draws, rfl⟩
  · exact ⟨_, s.draws, rfl⟩
  · exact ⟨_, s.draws, rfl⟩

/-- Everything a write can change: cost, last access, memory, devices, outputs; memory only in a byte store, devices and outputs only
in the register window. -/
theorem memWrite_state (a : Word) (n : Width) (v : Word) (s : State) :
    ∃ c m d o, memWrite a n v s = { s with cycles := c, busLast := some (alignDown a n, n), mem := m, dev := d, outputs := o } := by
  unfold memWrite
  simp only
  split
  · exact ⟨_, s.mem, s.dev, s.outputs, rfl⟩
  · exact ⟨_, s.mem, s.dev, s.outputs, rfl⟩
  · exact ⟨_, s.mem, s.dev, s.outputs, rfl⟩
  · obtain ⟨d, o, h⟩ := ioWrite_state (offsetOf (noteAccess (alignDown a n) n s).cfg (alignDown a n)) n v (noteAccess (alignDown a n) n s)
    exact ⟨_, s.mem, d, o, h⟩
  · exact ⟨_, _, s.dev, s.outputs, rfl⟩

@[simp] theorem memRead_regs (a : Word) (n : Width) (s : State) : (memRead a n s).2.regs = s.regs := by
  obtain ⟨c, d, h⟩ := memRead_state a n s; rw [h]
@[simp] theorem memRead_pc (a : Word) (n : Width) (s : State) : (memRead a n s).2.pc = s.pc := by
  obtain ⟨c, d, h⟩ := memRead_state a n s; rw [h]
@[simp] theorem memRead_cpsr (a : Word) (n : Width) (s : State) : (memRead a n s).2.cpsr = s.cpsr := by
  obtain ⟨c, d, h⟩ := memRead_state a n s; rw [h]
@[simp] theorem memRead_spsr (a : Word) (n : Width) (s : State) : (memRead a n s).2.spsr = s.spsr := by
  obtain ⟨c, d, h⟩ := memRead_state a n s; rw [h]
@[simp] theorem memRead_dev (a : Word) (n : Width) (s : State) : (memRead a n s).2.dev = s.dev := by
  obtain ⟨c, d, h⟩ := memRead_state a n s; rw [h]
@[simp] theorem memRead_mem (a : Word) (n : Width) (s : State) : (memRead a n s).2.mem = s.mem := by
  obtain ⟨c, d, h⟩ := memRead_state a n s; rw [h]
@[simp] theorem memRead_cfg (a : Word) (n : Width) (s : State) : (memRead a n s).2.cfg = s.cfg := by
  obtain ⟨c, d, h⟩ := memRead_state a n s; rw [h]
@[simp] theorem memRead_outputs (a : Word) (n : Width) (s : State) : (memRead a n s).2.outputs = s.outputs := by
  obtain ⟨c, d, h⟩ := memRead_state a n s; rw [h]
@[simp] theorem memRead_inputs (a : Word) (n : Width) (s : State) : (memRead a n s).2.inputs = s.inputs := by
  obtain ⟨c, d, h⟩ := memRead_state a n s; rw [h]

@[simp] theorem memWrite_regs (a : Word) (n : Width) (v : Word) (s : State) : (memWrite a n v s).regs = s.regs := by
  obtain ⟨c, m, d, o, h⟩ := memWrite_state a n v s; rw [h]
@[simp] theorem memWrite_pc (a : Word) (n : Width) (v : Word) (s : State) : (memWrite a n v s).pc = s.pc := by
  obtain ⟨c, m, d, o, h⟩ := memWrite_state a n v s; rw [h]
@[simp] theorem memWrite_cpsr (a : Word) (n : Width) (v : Word) (s : State) : (memWrite a n v s).cpsr = s.cpsr := by
  obtain ⟨c, m, d, o, h⟩ := memWrite_state a n v s; rw [h]
@[simp] theorem memWrite_spsr (a : Word) (n : Width) (v : Word) (s : State) : (memWrite a n v s).spsr = s.spsr := by
  obtain ⟨c, m, d, o, h⟩ := memWrite_state a n v s; rw [h]
@[simp] theorem memWrite_cfg (a : Word) (n : Width) (v : Word) (s : State) : (memWrite a n v s).cfg = s.cfg := by
  obtain ⟨c, m, d, o, h⟩ := memWrite_state a n v s; rw [h]
@[simp] theorem memWrite_draws (a : Word) (n : Width) (v : Word) (s : State) : (memWrite a n v s).draws = s.draws := by
  obtain ⟨c, m, d, o, h⟩ := memWrite_state a n v s; rw [h]
@[simp] theorem memWrite_inputs (a : Word) (n : Width) (v : Word) (s : State) : (memWrite a n v s).inputs = s.inputs := by
  obtain ⟨c, m, d, o, h⟩ := memWrite_state a n v s; rw [h]

/-! ## The region table -/

/-- The region a table gives an address, when its windows cover the addresses from `lo` on: the one that holds it, whose window is
aligned to 4. -/
theorem regionAt_spec (rs : List Region) (lo k : Nat) (h : regionsCover lo rs = true) (hlo : lo ≤ k) (hk : k < 2 ^ 32) :
    regionAt rs k ∈ rs ∧ (regionAt rs k).holds k = true ∧ (regionAt rs k).base % 4 = 0 ∧
      ((regionAt rs k).base + (regionAt rs k).span) % 4 = 0 := by
  induction rs generalizing lo with
  | nil => simp [regionsCover] at h; omega
  | cons r rest ih =>
    simp only [regionsCover, Bool.and_eq_true, beq_iff_eq, decide_eq_true_eq] at h
    simp only [regionAt]
    split
    · rename_i hr
      refine ⟨List.mem_cons_self, hr, by omega, ?_⟩
      have hend : (lo + r.span) % 4 = 0 := by
        cases rest with
        | nil => have := h.2; simp only [regionsCover, beq_iff_eq] at this; omega
        | cons r' rest' => have := h.2; simp only [regionsCover, Bool.and_eq_true, beq_iff_eq] at this; omega
      rw [h.1.1.1]; exact hend
    · rename_i hr
      simp only [Region.holds, Bool.and_eq_true, decide_eq_true_eq] at hr
      obtain ⟨hm, ht⟩ := ih (lo + r.span) h.2 (by omega)
      exact ⟨List.mem_cons_of_mem _ hm, ht⟩

/-- In such a table the region that holds an address is the only one. -/
theorem regionAt_unique (rs : List Region) (lo k : Nat) (r : Region) (h : regionsCover lo rs = true) (hr : r ∈ rs)
    (hk : r.holds k = true) : regionAt rs k = r ∧ lo ≤ k := by
  induction rs generalizing lo with
  | nil => cases hr
  | cons q rest ih =>
    simp only [regionsCover, Bool.and_eq_true, beq_iff_eq, decide_eq_true_eq] at h
    simp only [regionAt]
    obtain rfl | hr := List.mem_cons.mp hr
    · rw [if_pos hk]
      simp only [Region.holds, Bool.and_eq_true, decide_eq_true_eq] at hk
      exact ⟨rfl, by omega⟩
    · obtain ⟨he, hle⟩ := ih (lo + q.span) h.2 hr
      refine ⟨?_, by omega⟩
      rw [if_neg, he]
      simp only [Region.holds, Bool.and_eq_true, decide_eq_true_eq]; omega

/-! ## Changing the cartridge's length -/

@[simp] theorem setCartLen_vector (n : Nat) (c : Cfg) : (c.setCartLen n).vector = c.vector := rfl
@[simp] theorem setCartLen_entry (n : Nat) (c : Cfg) : (c.setCartLen n).entry = c.entry := rfl
@[simp] theorem setCartLen_prescale (n : Nat) (c : Cfg) : (c.setCartLen n).prescale = c.prescale := rfl
@[simp] theorem setCartLen_period (n : Nat) (c : Cfg) : (c.setCartLen n).period = c.period := rfl
@[simp] theorem setCartLen_offset (n : Nat) (c : Cfg) : (c.setCartLen n).offset = c.offset := rfl

/-- A map of regions that keeps every window keeps the cover. -/
theorem regionsCover_map (f : Region → Region) (hb : ∀ r, (f r).base = r.base) (hs : ∀ r, (f r).span = r.span) (rs : List Region)
    (lo : Nat) : regionsCover lo (rs.map f) = regionsCover lo rs := by
  induction rs generalizing lo with
  | nil => rfl
  | cons r rest ih => simp only [List.map_cons, regionsCover, hb, hs, ih]

/-- Loading an image of an admitted length keeps a configuration one the spec admits (60_exceptions.md R596). -/
theorem setCartLen_ok (n : Nat) (c : Cfg) (h : c.ok = true) (hn : cartLenOk n = true) : (c.setCartLen n).ok = true := by
  set f : Region → Region := fun r => if r.kind == .cartImage then { r with size := n } else r with hf
  have hkind : ∀ r, (f r).kind = r.kind := fun r => by simp only [hf]; split <;> rfl
  have hcover := regionsCover_map f (fun r => by simp only [hf]; split <;> rfl) (fun r => by simp only [hf]; split <;> rfl) c.regions 0
  have hcount : ∀ k : RegionKind, ((c.regions.map f).filter (fun r => r.kind == k)).length = (c.regions.filter (fun r => r.kind == k)).length := by
    intro k; rw [List.filter_map, List.length_map]; congr 2; funext r; simp [hkind]
  have hok : c.regions.all Region.ok = true → (c.regions.map f).all Region.ok = true := by
    simp only [List.all_eq_true, List.mem_map, forall_exists_index, and_imp, forall_apply_eq_imp_iff₂]
    intro hall r hr
    have := hall r hr
    simp only [cartLenOk, Bool.and_eq_true, bne_iff_ne, beq_iff_eq, decide_eq_true_eq] at hn
    by_cases hk : r.kind = .cartImage
    · simp_all [Region.ok]
    · simpa [hf, hk] using this
  simp only [Cfg.ok, Bool.and_eq_true] at h ⊢
  obtain ⟨⟨⟨⟨⟨⟨h1, h2⟩, h3⟩, h4⟩, h5⟩, h6⟩, h7⟩ := h
  refine ⟨⟨⟨⟨⟨⟨?_, hok h2⟩, ?_⟩, h4⟩, h5⟩, h6⟩, h7⟩
  · exact hcover.trans h1
  · rw [← h3]; exact congrArg (List.all _) (funext fun k => congrArg (· == 1) (hcount k))

/-! ## Aligned addresses -/

/-- The number an address is when forced down to a multiple of a width. -/
theorem alignDown_toNat (a : Word) (n : Width) : (alignDown a n).toNat = a.toNat - a.toNat % n.bytes := by
  cases n
  · simp [alignDown, Width.bytes, Nat.mod_one]
  · have : alignDown a .half = (a >>> 1) <<< 1 := by
      unfold alignDown; ext i hi; rw [BitVec.getElem_and]; interval_cases i <;> simp
    rw [this]; simp only [Width.bytes, BitVec.toNat_shiftLeft, BitVec.toNat_ushiftRight, Nat.shiftLeft_eq, Nat.shiftRight_eq_div_pow]
    have := a.isLt; omega
  · have : alignDown a .word = (a >>> 2) <<< 2 := by
      unfold alignDown; ext i hi; rw [BitVec.getElem_and]; interval_cases i <;> simp
    rw [this]; simp only [Width.bytes, BitVec.toNat_shiftLeft, BitVec.toNat_ushiftRight, Nat.shiftLeft_eq, Nat.shiftRight_eq_div_pow]
    have := a.isLt; omega

/-- In a configuration the spec admits, an address forced down lies in the region of the address: no access crosses a boundary
(20_memory.md R78). -/
theorem regionOf_alignDown (cfg : Cfg) (a : Word) (n : Width) (h : cfg.ok = true) : regionOf cfg (alignDown a n) = regionOf cfg a := by
  have hc : regionsCover 0 cfg.regions = true := by simp only [Cfg.ok, Bool.and_eq_true] at h; exact h.1.1.1.1.1.1
  obtain ⟨hm, hh, hb, he⟩ := regionAt_spec cfg.regions 0 a.toNat hc (Nat.zero_le _) a.isLt
  refine (regionAt_unique cfg.regions 0 _ _ hc hm ?_).1
  rw [alignDown_toNat]
  simp only [Region.holds, Bool.and_eq_true, decide_eq_true_eq] at hh ⊢
  cases n <;> simp only [Width.bytes] <;> omega

/-- A write outside a byte store changes no byte. -/
theorem memWrite_mem_of_not_store (a : Word) (n : Width) (v : Word) (s : State)
    (h : (regionOf s.cfg (alignDown a n)).kind ≠ .byteStore) : (memWrite a n v s).mem = s.mem := by
  unfold memWrite
  simp only
  split
  · rfl
  · rfl
  · rfl
  · obtain ⟨d, o, h⟩ := ioWrite_state (offsetOf (noteAccess (alignDown a n) n s).cfg (alignDown a n)) n v (noteAccess (alignDown a n) n s)
    rw [h]; rfl
  · contradiction

/-- A write outside the register window changes no device and hands the host nothing. -/
theorem memWrite_dev_of_not_io (a : Word) (n : Width) (v : Word) (s : State)
    (h : (regionOf s.cfg (alignDown a n)).kind ≠ .window) :
    (memWrite a n v s).dev = s.dev ∧ (memWrite a n v s).outputs = s.outputs := by
  unfold memWrite
  simp only
  split
  · exact ⟨rfl, rfl⟩
  · exact ⟨rfl, rfl⟩
  · exact ⟨rfl, rfl⟩
  · contradiction
  · exact ⟨rfl, rfl⟩

/-- A write to a byte store stores the value's bytes at the aligned unit. -/
theorem memWrite_mem_of_store (a : Word) (n : Width) (v : Word) (s : State)
    (h : (regionOf s.cfg (alignDown a n)).kind = .byteStore) :
    (memWrite a n v s).mem = storeBytes s.mem (byteKey s.cfg (alignDown a n)) v n := by
  unfold memWrite; simp [h]

/-- A write keeps the canonical form. -/
theorem memWf_memWrite (a : Word) (n : Width) (v : Word) (s : State) (h : memWf s.mem = true) : memWf (memWrite a n v s).mem = true := by
  by_cases hk : (regionOf s.cfg (alignDown a n)).kind = .byteStore
  · rw [memWrite_mem_of_store a n v s hk]; exact memWf_storeBytes _ _ _ _ h
  · rw [memWrite_mem_of_not_store a n v s hk]; exact h

/-- A read in a byte store or an image gives the bytes of the aligned unit. -/
theorem memRead_value_plain (a : Word) (n : Width) (s : State)
    (h : (regionOf s.cfg (alignDown a n)).kind.isBacked = true) :
    (memRead a n s).1 = loadBytes s.mem (byteKey s.cfg (alignDown a n)) n := by
  unfold memRead
  cases hk : (regionOf s.cfg (alignDown a n)).kind <;> simp_all [RegionKind.isBacked]

/-- The bytes of a store, one by one. -/
theorem memGet_storeBytes (m : List Host.Cell) (key k : Nat) (v : Word) (n : Width) :
    memGet (storeBytes m key v n) k =
      if key ≤ k ∧ k < key + n.bytes then (v >>> (8 * (k - key))).setWidth 8 else memGet m k := by
  have e : ∀ j : Nat, (v.extractLsb' j 8 : Byte) = (v >>> j).setWidth 8 := fun j => by
    ext i hi; simp
  cases n <;> simp only [storeBytes, memGet_memSet, e]
  · by_cases h : k = key
    · subst h; simp [Width.bytes]
    · rw [if_neg h]; exact (if_neg (by simp only [Width.bytes]; omega)).symm
  · by_cases h1 : k = key + 1
    · subst h1; simp [Width.bytes]
    · by_cases h : k = key
      · subst h; simp [Width.bytes]
      · rw [if_neg h1, if_neg h]; exact (if_neg (by simp only [Width.bytes]; omega)).symm
  · by_cases h3 : k = key + 3
    · subst h3; simp [Width.bytes]
    · by_cases h2 : k = key + 2
      · subst h2; simp [Width.bytes]
      · by_cases h1 : k = key + 1
        · subst h1; simp [Width.bytes]
        · by_cases h : k = key
          · subst h; simp [Width.bytes]
          · rw [if_neg h3, if_neg h2, if_neg h1, if_neg h]; exact (if_neg (by simp only [Width.bytes]; omega)).symm

/-- A write leaves every byte outside its unit alone. -/
theorem memWrite_keepsBytes (a : Word) (n : Width) (v : Word) (s : State) :
    keepsBytes (storeKeys s.cfg a n) s (memWrite a n v s) := by
  intro k hk
  by_cases h : (regionOf s.cfg (alignDown a n)).kind = .byteStore
  · rw [memWrite_mem_of_store a n v s h, memGet_storeBytes, if_neg]
    simp only [storeKeys, h, List.mem_map, List.mem_range, not_exists, not_and] at hk
    rintro ⟨h1, h2⟩
    exact hk (k - byteKey s.cfg (alignDown a n)) (by omega) (by omega)
  · rw [memWrite_mem_of_not_store a n v s h]

end Sys2Proof.Machine
end

