-- ==== Sys2Proof/Laws/Registers.lean ====
section
/-! SUPPORT. The register view: which physical register a number names, a read after a write, and the registers an operation keeps. -/

namespace Sys2Proof.Machine

/-! ## The view of a mode -/

/-- Only register 15 names no general register. -/
theorem physIndex_eq_none (m : Mode) (i : Reg) : physIndex m i = none ↔ i = 15#4 := by
  cases m <;> revert i <;> decide

/-- In one mode, two numbers never name one physical register. -/
theorem physIndex_inj (m : Mode) (i j : Reg) (h : physIndex m i = physIndex m j) : i = j := by
  cases m <;> revert i j <;> decide

/-- A read after a write of the same physical register, or of another. -/
theorem xIn_setXIn (m m' : Mode) (i j : Reg) (v : Word) (s : State) (hi : i ≠ 15#4) (hj : j ≠ 15#4) :
    (s.setXIn m i v).xIn m' j = if physIndex m i = physIndex m' j then v else s.xIn m' j := by
  obtain ⟨k, hk⟩ := Option.ne_none_iff_exists'.mp (fun e => hi ((physIndex_eq_none m i).mp e))
  obtain ⟨l, hl⟩ := Option.ne_none_iff_exists'.mp (fun e => hj ((physIndex_eq_none m' j).mp e))
  simp only [State.setXIn, State.xIn, hk, hl, Option.some.injEq]
  by_cases h : k = l
  · subst h; simp
  · have : k.val ≠ l.val := fun e => h (Fin.ext e)
    simp [h, this]

@[simp] theorem x_setX_same (i : Reg) (v : Word) (s : State) (h : i ≠ 15#4) : (s.setX i v).x i = v := by
  simp only [State.x, setX_cpsr]; unfold State.setX; rw [xIn_setXIn _ _ _ _ _ _ h h, if_pos rfl]

theorem x_setX_ne (i j : Reg) (v : Word) (s : State) (h : i ≠ j) : (s.setX i v).x j = s.x j := by
  by_cases hi : i = 15#4
  · subst hi; rfl
  · by_cases hj : j = 15#4
    · subst hj; simp [State.x, State.xIn, physIndex]
    · simp only [State.x, setX_cpsr]; unfold State.setX
      rw [xIn_setXIn _ _ _ _ _ _ hi hj, if_neg (fun e => h (physIndex_inj _ _ _ e))]

/-- A register read depends on the registers alone. -/
theorem xIn_congr (m : Mode) (i : Reg) (s t : State) (hi : i ≠ 15#4) (h : t.regs = s.regs) : t.xIn m i = s.xIn m i := by
  obtain ⟨k, hk⟩ := Option.ne_none_iff_exists'.mp (fun e => hi ((physIndex_eq_none m i).mp e))
  simp only [State.xIn, hk, h]

/-- A register read depends on the registers and the mode alone. -/
theorem x_congr (i : Reg) (s t : State) (hi : i ≠ 15#4) (h : t.regs = s.regs) (hm : t.cpsr.mode = s.cpsr.mode) : t.x i = s.x i := by
  simp only [State.x, hm]; exact xIn_congr _ i s t hi h

/-- A write of register 15 in the view of a mode does nothing. -/
@[simp] theorem setXIn_pc_reg (m : Mode) (v : Word) (s : State) : s.setXIn m 15#4 v = s := by
  simp [State.setXIn, physIndex]

/-! ## Which registers an operation keeps -/

theorem keepsRegs_of_regs (ks : List (Option (Fin 30))) (s t : State) (h : t.regs = s.regs) : keepsRegs ks s t := by
  intro k _; rw [h]

theorem keepsRegs.trans {ks ls : List (Option (Fin 30))} {s t u : State} (h : keepsRegs ks s t) (h' : keepsRegs ls t u) :
    keepsRegs (ks ++ ls) s u := by
  intro k hk
  simp only [List.mem_append, not_or] at hk
  rw [h' k hk.2, h k hk.1]

theorem keepsRegs.mono {ks ls : List (Option (Fin 30))} {s t : State} (h : keepsRegs ks s t) (hsub : ∀ k : Fin 30, some k ∈ ks → some k ∈ ls) :
    keepsRegs ls s t := fun k hk => h k (fun hin => hk (hsub k hin))

/-- A register write changes the register its number names, and no other. -/
theorem keepsRegs_setXIn (m : Mode) (i : Reg) (v : Word) (s : State) : keepsRegs [physIndex m i] s (s.setXIn m i v) := by
  intro k hk
  unfold State.setXIn
  split
  · rename_i l hl
    have : l.val ≠ k.val := fun e => hk (by rw [hl, Fin.ext e]; exact List.mem_singleton.mpr rfl)
    simp [this]
  · rfl

theorem keepsRegs_setX (i : Reg) (v : Word) (s : State) : keepsRegs [s.sees i] s (s.setX i v) := keepsRegs_setXIn _ i v s

/-- `write_reg` changes the register its number names, and no other. -/
theorem keepsRegs_writeReg (d : Reg) (v : Word) (s : State) : keepsRegs [s.sees d] s (writeReg d v s) := by
  unfold writeReg; split
  · exact keepsRegs_of_regs _ _ _ rfl
  · exact keepsRegs_setX d v s

/-- Everything a list of register writes can change: the registers. -/
theorem setRegs_state (m : Mode) (l : List (Reg × Word)) (s : State) : ∃ r, setRegs m l s = { s with regs := r } := by
  induction l generalizing s with
  | nil => exact ⟨s.regs, rfl⟩
  | cons p rest ih =>
    obtain ⟨i, v⟩ := p
    obtain ⟨r, hr⟩ := ih (s.setXIn m i v)
    refine ⟨r, ?_⟩
    simp only [setRegs, hr]
    unfold State.setXIn; split <;> rfl

/-- A list of register writes changes the registers its numbers name, and no other. -/
theorem keepsRegs_setRegs (m : Mode) (l : List (Reg × Word)) (s : State) :
    keepsRegs (l.map (fun p => physIndex m p.1)) s (setRegs m l s) := by
  induction l generalizing s with
  | nil => exact keepsRegs_of_regs _ _ _ rfl
  | cons p rest ih => obtain ⟨i, v⟩ := p; exact (keepsRegs_setXIn m i v s).trans (ih _)

/-- The one physical register an exception entry changes: r14 of the mode it enters. -/
theorem keepsRegs_enterException (m : Mode) (vec ret : Word) (s : State) :
    keepsRegs [physIndex m 14#4] s (enterException m vec ret s) := by
  intro k hk
  exact keepsRegs_setXIn m 14#4 ret _ k hk

end Sys2Proof.Machine
end

