-- ==== Sys2Proof/Laws/Control.lean ====
section
/-! SUPPORT. The shared operations of execution: for each, what its answer can be and all it can change. -/

namespace Sys2Proof.Machine

/-! ## Sequencing -/

theorem andThen_eq_next (r : Result) (f : State → Result) (t : State) : andThen r f = .next t ↔ ∃ u, r = .next u ∧ f u = .next t := by
  cases r <;> simp [andThen]

theorem addCycles_eq_next (n : Nat) (r : Result) (t : State) :
    addCycles n r = .next t ↔ ∃ u, r = .next u ∧ t = { u with cycles := u.cycles + n } := by
  cases r <;> simp [addCycles, eq_comm]

theorem unlistedBody_armv4t (body : Word → State → Result) (a : Word) (s : State) (h : s.cfg.unlisted = .armv4t) :
    unlistedBody body a s = body a s := by simp [unlistedBody, h]

theorem unlistedBody_refuse (body : Word → State → Result) (a : Word) (s : State) (h : s.cfg.unlisted = .refuse) :
    unlistedBody body a s = .refused .unlistedFamily := by simp [unlistedBody, h]

theorem armExec_pass (c : Cond) (body : Word → State → Result) (s : State) (h : condHolds c s.cpsr = true) :
    armExec c body s = body s.pc { s with pc := s.pc + 4#32 } := by simp [armExec, h]

theorem armExec_fail (c : Cond) (body : Word → State → Result) (s : State) (h : condHolds c s.cpsr = false) :
    armExec c body s = .next { s with pc := s.pc + 4#32 } := by simp [armExec, h]

theorem thumbExec_eq (body : Word → State → Result) (s : State) : thumbExec body s = body s.pc { s with pc := s.pc + 2#32 } := rfl

/-! ## Status words -/

/-- The bits of a status word survive being written out and read back. -/
@[simp] theorem psrOfWord_psrWord (p : Psr) : psrOfWord (psrWord p) = p := by
  obtain ⟨n, z, c, v, i, f, t, m⟩ := p
  simp only [psrOfWord, psrWord, Psr.mk.injEq]
  refine ⟨?_, ?_, ?_, ?_, ?_, ?_, ?_, ?_⟩
  case refine_8 =>
    ext i hi
    simp only [BitVec.getElem_extractLsb', BitVec.getLsbD_append, Nat.zero_add, hi, if_true]
    exact BitVec.getLsbD_eq_getElem hi
  all_goals (simp only [BitVec.getLsbD_append, BitVec.getLsbD_ofBool]; simp)

@[simp] theorem modeOfBits_modeBits (m : Mode) : modeOfBits (modeBits m) = some m := by cases m <;> rfl

@[simp] theorem cpsrOfPsr_psrOfCpsr (c : Cpsr) : cpsrOfPsr (psrOfCpsr c) = some c := by simp [cpsrOfPsr, psrOfCpsr]

/-- A saved status word is read back from the mode it was written for; no other changes. -/
theorem spsrOf_setSpsrOf (m m' : Mode) (p : Psr) (f : SpsrFile) :
    spsrOf m' (setSpsrOf m p f) = if m' = m ∧ spsrOf m f ≠ none then some p else spsrOf m' f := by
  cases m <;> cases m' <;> simp [spsrOf, setSpsrOf]

/-- `restore_cpsr` goes on exactly when the mode has an SPSR that holds a legal mode, and replaces the status word alone. -/
theorem restoreCpsr_eq_next (s t : State) :
    restoreCpsr s = .next t ↔ ∃ p c, s.curSpsr = some p ∧ cpsrOfPsr p = some c ∧ t = { s with cpsr := c } := by
  unfold restoreCpsr
  cases h : s.curSpsr with
  | none => simp
  | some p => cases h' : cpsrOfPsr p <;> simp [h', eq_comm]

/-- Everything `psr_write` can change when it goes on: the one status word it names. -/
theorem psrWrite_state (p : Bool) (fields : BitVec 4) (v : Word) (s t : State) (h : psrWrite p fields v s = .next t) :
    ∃ c f, t = { s with cpsr := c, spsr := f } ∧ (p = true → c = s.cpsr) ∧ (p = false → f = s.spsr) := by
  cases p with
  | true =>
    simp only [psrWrite] at h
    cases hs : s.curSpsr with
    | none => simp [hs] at h
    | some old => simp only [hs, if_true, Host.Outcome.next.injEq] at h; exact ⟨s.cpsr, _, h.symm, fun _ => rfl, by simp⟩
  | false =>
    simp only [psrWrite, Bool.false_eq_true, if_false] at h
    split at h
    · simp at h
    · simp only [Host.Outcome.next.injEq] at h; exact ⟨_, s.spsr, h.symm, by simp, fun _ => rfl⟩

/-! ## Traps -/

/-- Everything a software interrupt can do, by its policy. -/
theorem raiseSwi_eq (ret : Word) (s : State) :
    raiseSwi ret s = .next (if s.cfg.swiPolicy = .trap then enterException .svc s.cfg.vector.swi ret s else s) := by
  unfold raiseSwi; cases s.cfg.swiPolicy <;> rfl

/-- Everything an unrecognized encoding can do, by its policy. -/
theorem raiseUndefined_eq (ret : Word) (s : State) :
    raiseUndefined ret s = .next (if s.cfg.unrecognizedPolicy = .trap then enterException .und s.cfg.vector.undef ret s else s) := by
  unfold raiseUndefined; cases s.cfg.unrecognizedPolicy <;> rfl

/-- An instruction of an unlisted family gives a next state only under `armv4t`. -/
theorem unlistedBody_eq_next (body : Word → State → Result) (a : Word) (s t : State) :
    unlistedBody body a s = .next t ↔ s.cfg.unlisted = .armv4t ∧ body a s = .next t := by
  unfold unlistedBody; cases s.cfg.unlisted <;> simp

/-! ## Loads -/

/-- A load changes the state by the accounting of one access only: to the aligned unit of its width (20_memory.md R80, R83). -/
def IsLoad (n : Width) (load : Word → State → Word × State) : Prop :=
  ∀ a s, ∃ c d, (load a s).2 = { s with cycles := c, busLast := some (alignDown a n, n), draws := d }

theorem loadWord_isLoad : IsLoad .word loadWord := fun a s => memRead_state a .word s
theorem loadByte_isLoad : IsLoad .byte loadByte := fun a s => memRead_state a .byte s
theorem loadHalf_isLoad : IsLoad .half loadHalf := fun a s => memRead_state a .half s
theorem loadSignedByte_isLoad : IsLoad .byte loadSignedByte := fun a s => memRead_state a .byte s
theorem loadSignedHalf_isLoad : IsLoad .half loadSignedHalf := fun a s => memRead_state a .half s

/-- Everything a load instruction's body can change: its destination, the written-back base, the program counter. -/
theorem transferLoad_state (n : Width) (load : Word → State → Word × State) (hl : IsLoad n load) (rn rd : Reg) (d : Address) (s : State) :
    ∃ t, transferLoad load rn rd d s = .next t ∧
      keepsRegs (s.sees rd :: (if d.wb then [s.sees rn] else [])) s t ∧ t.cpsr = s.cpsr ∧ t.mem = s.mem ∧ keepsSystem s t ∧
      t.busLast = some (alignDown d.addr n, n) := by
  obtain ⟨c, e, h⟩ := hl d.addr s
  refine ⟨_, rfl, ?_, ?_, ?_, ?_, ?_⟩
  · simp only [h, writeBack]
    split
    · refine ((keepsRegs_setX rn d.target _).trans (keepsRegs_writeReg rd _ _)).mono ?_
      simp [State.sees, or_comm]
    · exact (keepsRegs_writeReg rd _ _).mono (by simp [State.sees])
  all_goals (simp only [h, writeBack]; split <;> simp [keepsSystem])

/-- Everything a store instruction's body can change: the bytes of its unit, the written-back base, the devices in the window. -/
theorem transferStore_state (n : Width) (a : Word) (rn rd : Reg) (d : Address) (s : State) :
    ∃ t, transferStore n a rn rd d s = .next t ∧
      keepsRegs (if d.wb then [s.sees rn] else []) s t ∧ t.pc = s.pc ∧ t.cpsr = s.cpsr ∧ t.spsr = s.spsr ∧
      t.cfg = s.cfg ∧ t.inputs = s.inputs ∧ keepsBytes (storeKeys s.cfg d.addr n) s t := by
  refine ⟨_, rfl, ?_, ?_, ?_, ?_, ?_, ?_, ?_⟩
  · simp only [writeBack]
    split
    · exact ((keepsRegs_of_regs [] s _ (memWrite_regs _ _ _ s)).trans (keepsRegs_setX rn d.target _)).mono (by simp [State.sees])
    · exact keepsRegs_of_regs _ _ _ (memWrite_regs _ _ _ s)
  case refine_7 =>
    intro k hk
    have := memWrite_keepsBytes d.addr n (s.xOr (a + Config.armPcStoreAhead) rd) s k hk
    simp only [writeBack]; split <;> simpa using this
  all_goals (simp only [writeBack]; split <;> simp)

/-! ## Runs of words -/

/-- A run of reads changes the state by its accounting only, and gives one value per word. -/
theorem readWords_state (k : Nat) (a : Word) (s : State) :
    ∃ c b d, (readWords k a s).2 = { s with cycles := c, busLast := b, draws := d } := by
  induction k generalizing a s with
  | zero => exact ⟨_, _, _, rfl⟩
  | succ k ih =>
    obtain ⟨c, d, h⟩ := memRead_state a .word s
    obtain ⟨c', b', d', h'⟩ := ih (a + 4#32) (memRead a .word s).2
    refine ⟨c', b', d', ?_⟩
    rw [h] at h'; simp only [readWords, h, h']

@[simp] theorem readWords_length (k : Nat) (a : Word) (s : State) : (readWords k a s).1.length = k := by
  induction k generalizing a s with
  | zero => rfl
  | succ k ih => simp [readWords, ih]

/-- Everything a run of writes can change. -/
theorem writeWords_state (vs : List Word) (a : Word) (s : State) :
    ∃ c b m d o, writeWords vs a s = { s with cycles := c, busLast := b, mem := m, dev := d, outputs := o } := by
  induction vs generalizing a s with
  | nil => exact ⟨_, _, _, _, _, rfl⟩
  | cons v vs ih =>
    obtain ⟨c, m, d, o, h⟩ := memWrite_state a .word v s
    obtain ⟨c', b', m', d', o', h'⟩ := ih (a + 4#32) (memWrite a .word v s)
    refine ⟨c', b', m', d', o', ?_⟩
    rw [h] at h'; simp only [writeWords, h, h']

/-- A run of writes leaves every byte outside its units alone. -/
theorem writeWords_keepsBytes (vs : List Word) (a : Word) (s : State) :
    keepsBytes ((wordsFrom vs.length a).flatMap (fun q => storeKeys s.cfg q.1 q.2)) s (writeWords vs a s) := by
  induction vs generalizing a s with
  | nil => intro k _; rfl
  | cons v vs ih =>
    intro k hk
    simp only [List.length_cons, wordsFrom, List.flatMap_cons, List.mem_append, not_or] at hk
    have h1 := memWrite_keepsBytes a .word v s k hk.1
    have h2 := ih (a + 4#32) (memWrite a .word v s) k (by simpa using hk.2)
    simp only [writeWords]; rw [h2, h1]

/-- A run of writes keeps the canonical form. -/
theorem memWf_writeWords (vs : List Word) (a : Word) (s : State) (h : memWf s.mem = true) : memWf (writeWords vs a s).mem = true := by
  induction vs generalizing a s with
  | nil => exact h
  | cons v vs ih => exact ih _ _ (memWf_memWrite a .word v s h)

end Sys2Proof.Machine
end

