-- ==== Sys2Proof/Laws/Decode.lean ====
section
/-! SUPPORT. Looking a word up in a list of rows: a row's answer does not depend on its place when no word matches two rows. -/

namespace Sys2Proof

/-- Two rows that ask for different values of a bit both test are never hit by one word. -/
theorem Row.not_both {n : Nat} (r q : Row n) (h : r.val &&& q.mask ≠ q.val &&& r.mask) (w : BitVec n) (hr : r.hits w = true) :
    q.hits w = false := by
  simp only [Row.hits, beq_iff_eq, beq_eq_false_iff_ne] at *
  intro hq
  exact h (by rw [← hr, ← hq, BitVec.and_assoc, BitVec.and_assoc, BitVec.and_comm r.mask])

/-- What a lookup answers comes from a row the word matches. -/
theorem lookup_eq_some {n : Nat} (rows : List (Row n)) (w : BitVec n) (i : Instr) (h : lookup rows w = some i) :
    ∃ r ∈ rows, r.hits w = true ∧ i = r.build w := by
  induction rows with
  | nil => simp [lookup] at h
  | cons r rest ih =>
    simp only [lookup] at h
    split at h
    · rename_i hr; exact ⟨r, by simp, hr, (Option.some.inj h).symm⟩
    · obtain ⟨q, hq, hw⟩ := ih h; exact ⟨q, by simp [hq], hw⟩

/-- A lookup that answers nothing found no row. -/
theorem lookup_eq_none {n : Nat} (rows : List (Row n)) (w : BitVec n) : lookup rows w = none ↔ ∀ r ∈ rows, r.hits w = false := by
  induction rows with
  | nil => simp [lookup]
  | cons r rest ih => simp only [lookup]; split <;> simp_all

/-- In a list of pairwise exclusive rows, a row the word matches gives the answer. -/
theorem lookup_of_mem {n : Nat} (rows : List (Row n)) (hp : rows.Pairwise (fun r q => r.val &&& q.mask ≠ q.val &&& r.mask))
    (w : BitVec n) (r : Row n) (hr : r ∈ rows) (hw : r.hits w = true) : lookup rows w = some (r.build w) := by
  induction rows with
  | nil => simp at hr
  | cons q rest ih =>
    obtain ⟨hq, hrest⟩ := List.pairwise_cons.mp hp
    simp only [lookup]
    rcases List.mem_cons.mp hr with rfl | hm
    · simp [hw]
    · have : q.hits w = false := Row.not_both r q (fun e => hq r hm e.symm) w hw
      simp [this, ih hrest hm]

end Sys2Proof
end

