-- ==== Sys2Proof/Laws/Devices.lean ====
section
/-! SUPPORT. Timers and DMA: all that the agents beside the Execution Engine can change. -/

namespace Sys2Proof.Machine

/-! ## Timers -/

/-- What ticking and counting can change: the timers, IF, the overflow outputs. -/
def OnlyTimers (s t : State) : Prop :=
  ∃ ts ifr o, t = { s with dev := { s.dev with timers := ts, ifr := ifr }, outputs := o }

theorem OnlyTimers.refl (s : State) : OnlyTimers s s := ⟨_, _, _, rfl⟩

theorem OnlyTimers.trans {s t u : State} (h : OnlyTimers s t) (h' : OnlyTimers t u) : OnlyTimers s u := by
  obtain ⟨ts, i, o, rfl⟩ := h; obtain ⟨ts', i', o', rfl⟩ := h'; exact ⟨ts', i', o', rfl⟩

theorem timerTickFuel_only (fuel : Nat) (n : Fin 4) (s : State) : OnlyTimers s (timerTickFuel fuel n s) := by
  induction fuel generalizing n s with
  | zero => exact .refl s
  | succ fuel ih =>
    simp only [timerTickFuel]
    repeat' split
    all_goals first
      | exact .refl s
      | exact OnlyTimers.trans ⟨_, _, _, rfl⟩ (ih _ _)
      | exact ⟨_, _, _, rfl⟩

theorem timerCycle_only (n : Fin 4) (s : State) : OnlyTimers s (timerCycle n s) := by
  have h1 : ∀ t : Timer, OnlyTimers s { s with dev := setTimer n t s.dev } := fun t => ⟨_, s.dev.ifr, s.outputs, rfl⟩
  simp only [timerCycle]
  split
  · split
    · exact (h1 _).trans (timerTickFuel_only 4 n _)
    · exact h1 _
  · exact .refl s

/-- `timers_advance` changes the timers, IF and the overflow outputs only. -/
theorem timersAdvance_only (c : Nat) (s : State) : OnlyTimers s (timersAdvance c s) := by
  induction c generalizing s with
  | zero => exact .refl s
  | succ c ih =>
    exact ((((timerCycle_only 0 s).trans (timerCycle_only 1 _)).trans (timerCycle_only 2 _)).trans (timerCycle_only 3 _)).trans (ih _)

/-! ## DMA -/

/-- What a transfer can change: memory in canonical form stays so; no register, status word or program counter changes. -/
def OnlyDma (s t : State) : Prop :=
  ∃ m d c b o r, t = { s with mem := m, dev := d, cycles := c, busLast := b, outputs := o, draws := r } ∧
    (memWf s.mem = true → memWf m = true)

theorem OnlyDma.refl (s : State) : OnlyDma s s := ⟨_, _, _, _, _, _, rfl, id⟩

theorem OnlyDma.trans {s t u : State} (h : OnlyDma s t) (h' : OnlyDma t u) : OnlyDma s u := by
  obtain ⟨m, d, c, b, o, r, rfl, hm⟩ := h
  obtain ⟨m', d', c', b', o', r', rfl, hm'⟩ := h'
  exact ⟨m', d', c', b', o', r', rfl, fun hw => hm' (hm hw)⟩

theorem memRead_onlyDma (a : Word) (n : Width) (s : State) : OnlyDma s (memRead a n s).2 := by
  obtain ⟨c, d, h⟩ := memRead_state a n s
  exact ⟨s.mem, s.dev, c, _, s.outputs, d, h, id⟩

theorem memWrite_onlyDma (a : Word) (n : Width) (v : Word) (s : State) : OnlyDma s (memWrite a n v s) := by
  obtain ⟨c, m, d, o, h⟩ := memWrite_state a n v s
  refine ⟨m, d, c, _, o, s.draws, h, fun hw => ?_⟩
  have := memWf_memWrite a n v s hw
  rwa [h] at this

theorem dev_onlyDma (d : Devices) (s : State) : OnlyDma s { s with dev := d } := ⟨_, _, _, _, _, _, rfl, id⟩

theorem dmaUnit_only (ch : Fin 4) (u : Width) (s : State) : OnlyDma s (dmaUnit ch u s) :=
  ((memRead_onlyDma _ u s).trans (memWrite_onlyDma _ u _ _)).trans (dev_onlyDma _ _)

theorem dmaUnitsRun_only (k : Nat) (ch : Fin 4) (u : Width) (s : State) : OnlyDma s (dmaUnitsRun k ch u s) := by
  induction k generalizing s with
  | zero => exact .refl s
  | succ k ih => exact (dmaUnit_only ch u s).trans (ih _)

theorem dmaRun_only (ch : Fin 4) (s : State) : OnlyDma s (dmaRun ch s) :=
  (dmaUnitsRun_only _ ch _ s).trans (dev_onlyDma _ _)

theorem dmaChannelTurn_only (ch : Fin 4) (s : State) : OnlyDma s (dmaChannelTurn ch s) := by
  simp only [dmaChannelTurn]; split
  · exact (dmaRun_only ch s).trans ⟨_, _, _, _, _, _, rfl, id⟩
  · exact .refl s

/-- `dma_advance` changes memory, devices, outputs and the accounting only. -/
theorem dmaAdvance_only (s : State) : OnlyDma s (dmaAdvance s) := by
  have h0 : OnlyDma s { s with cycles := 0 } := ⟨_, _, _, _, _, _, rfl, id⟩
  exact (((h0.trans (dmaChannelTurn_only 0 _)).trans (dmaChannelTurn_only 1 _)).trans (dmaChannelTurn_only 2 _)).trans (dmaChannelTurn_only 3 _)

theorem OnlyTimers.onlyDma {s t : State} (h : OnlyTimers s t) : OnlyDma s t := by
  obtain ⟨ts, i, o, rfl⟩ := h; exact ⟨_, _, _, _, _, _, rfl, id⟩

/-- The rest of a turn changes memory, devices, outputs and the accounting only. -/
theorem finishTurn_only (s : State) : OnlyDma s (finishTurn s) :=
  (((timersAdvance_only s.cycles s).onlyDma.trans (dmaAdvance_only _)).trans (timersAdvance_only _ _).onlyDma).trans
    ⟨_, _, _, _, _, _, rfl, id⟩

end Sys2Proof.Machine
end

