-- ==== Sys2Proof/Laws/Flags.lean ====
section
/-! SUPPORT. The adder in the integers: its result, its carry and its overflow, for a sum and for a difference. -/

namespace Sys2Proof.Machine

/-- The sum, modulo 2^32. -/
theorem addWithCarry_result (x y : Word) (cin : Bool) :
    (addWithCarry x y cin).result = x + y + (if cin then 1#32 else 0#32) := by
  cases cin <;> simp [addWithCarry, BitVec.ofNat_add]

/-- Overflow is an exact signed sum that does not fit. -/
theorem addWithCarry_overflow (x y : Word) (cin : Bool) :
    (addWithCarry x y cin).overflow =
      decide (x.toInt + y.toInt + cin.toNat < -(2 ^ 31) ∨ 2 ^ 31 ≤ x.toInt + y.toInt + cin.toNat) := by
  have hm : ∀ w : Word, w.getLsbD 31 = decide (2 ^ 31 ≤ w.toNat) := fun w => by
    rw [← BitVec.msb_eq_getLsbD_last, BitVec.msb_eq_decide]
  have hx := x.isLt; have hy := y.isLt
  have hc : cin.toNat ≤ 1 := by cases cin <;> simp
  simp only [addWithCarry, hm, BitVec.toNat_ofNat, BitVec.toInt_eq_toNat_cond]
  rw [Bool.eq_iff_iff]
  simp only [Bool.and_eq_true, beq_iff_eq, bne_iff_ne, ne_eq, decide_eq_true_eq, decide_eq_decide]
  split <;> split <;> omega

/-- Carry of `x + ~y + cin` is "no borrow": `y + (1 - cin) ≤ x`. -/
theorem addWithCarry_not_carry (x y : Word) (cin : Bool) :
    (addWithCarry x (~~~y) cin).carry = decide (y.toNat + (!cin).toNat ≤ x.toNat) := by
  have hx := x.isLt; have hy := y.isLt
  simp only [addWithCarry, BitVec.toNat_not, decide_eq_decide]
  cases cin <;> simp <;> omega

/-- The value of `x + ~y + cin` is the difference less the borrow. -/
theorem addWithCarry_not_result (x y : Word) (cin : Bool) :
    (addWithCarry x (~~~y) cin).result = x - y - (if cin then 0#32 else 1#32) := by
  rw [addWithCarry_result]
  cases cin <;> simp only [Bool.false_eq_true, if_true, if_false] <;> bv_omega

/-- The complement of a word as a signed number. -/
theorem toInt_complement (y : Word) : (~~~y).toInt = -1 - y.toInt := by
  have hy := y.isLt
  simp only [BitVec.toInt_eq_toNat_cond, BitVec.toNat_not]
  split <;> split <;> omega

end Sys2Proof.Machine
end

