-- ==== Sys2Proof/Tests/Slice0.lean ====
section
/-! SUPPORT. Tests. Decoding: the word of every row of the opcode table, written out bit by bit from the format tables of
30_encoding.md R122, R124, R127. Meanings: single steps whose expected results are the rows of 95_test_vectors.md (the section is
named in each comment) or follow by hand from the rule named. Witnesses: for every statement with hypotheses, a state and operands
that meet them. -/

open Sys2Proof Sys2Proof.Machine Sys2Proof.Claims

namespace Sys2Proof.Tests

/-! ## Building states and reading results -/

/-- A state about to execute at 0x08000000: status word, registers in its mode's view, words in memory. -/
def at_ (cpsr : Word) (regs : List (Reg × Word)) (mem : List (Word × Word)) : State :=
  let c := (cpsrOfPsr (psrOfWord cpsr)).getD State.reset.cpsr
  let s := setRegs c.mode regs { State.reset with cpsr := c }
  { s with mem := mem.foldl (fun m p => storeBytes m (byteKey s.cfg p.1) p.2 .word) [] }

/-- The state with the saved status word of a mode. -/
def withSaved (m : Mode) (w : Word) (s : State) : State := { s with spsr := setSpsrOf m (psrOfWord w) s.spsr }

/-- The state about to execute elsewhere. -/
def withPc (a : Word) (s : State) : State := { s with pc := a }

/-- The state with IE, IF and IME. -/
def withIrq (ie ifr ime : Half) (s : State) : State := { s with dev := { s.dev with ie := ie, ifr := ifr, ime := ime } }

/-- Executing a 32-bit word. -/
def runArm (w : Word) (s : State) : Result :=
  match decodeArm w with
  | some i => exec i s
  | none => execUnlistedWord (condOf w) s

/-- Executing a halfword. -/
def runThumb (h : Half) (s : State) : Result :=
  match decodeThumb h with
  | some i => exec i s
  | none => .fault .illegalMode

/-- A next state with a property. -/
def leads (r : Result) (p : State → Bool) : Bool :=
  match r with
  | .next t => p t
  | .fault _ | .refused _ => false

/-- N, Z, C, V as four bits. -/
def flags (s : State) : Word := cpsrWord s.cpsr >>> 28

/-- The saved status word of a mode. -/
def saved (s : State) (m : Mode) : Option Word := (spsrOf m s.spsr).map psrWord

/-- The word memory holds at an address. -/
def word (s : State) (a : Word) : Word := loadBytes s.mem (byteKey s.cfg a) .word

theorem next_of_leads (r : Result) (h : leads r (fun _ => true) = true) : ∃ t, r = .next t := by
  cases r <;> simp_all [leads]

/-! ## Decoding -/

theorem test_decode_A1_a :
    decodeArm 0b1110_001_0000_0_1010_0101_0011_11000101#32 = some (.andImm .al false 10#4 5#4 0x3#4 0xC5#8) ∧
    decodeArm 0b1101_001_0001_1_1010_0101_0011_11000101#32 = some (.eorImm .le true 10#4 5#4 0x3#4 0xC5#8) ∧
    decodeArm 0b1100_001_0010_0_1010_0101_0011_11000101#32 = some (.subImm .gt false 10#4 5#4 0x3#4 0xC5#8) ∧
    decodeArm 0b1011_001_0011_1_1010_0101_0011_11000101#32 = some (.rsbImm .lt true 10#4 5#4 0x3#4 0xC5#8) ∧
    decodeArm 0b1010_001_0100_0_1010_0101_0011_11000101#32 = some (.addImm .ge false 10#4 5#4 0x3#4 0xC5#8) ∧
    decodeArm 0b1001_001_0101_1_1010_0101_0011_11000101#32 = some (.adcImm .ls true 10#4 5#4 0x3#4 0xC5#8) ∧
    decodeArm 0b1000_001_0110_0_1010_0101_0011_11000101#32 = some (.sbcImm .hi false 10#4 5#4 0x3#4 0xC5#8) ∧
    decodeArm 0b0111_001_0111_1_1010_0101_0011_11000101#32 = some (.rscImm .vc true 10#4 5#4 0x3#4 0xC5#8) := by decide

theorem test_decode_A1_b :
    decodeArm 0b0110_001_1000_1_1010_0000_0011_11000101#32 = some (.tstImm .vs 10#4 0x3#4 0xC5#8) ∧
    decodeArm 0b0101_001_1001_1_1010_0000_0011_11000101#32 = some (.teqImm .pl 10#4 0x3#4 0xC5#8) ∧
    decodeArm 0b0100_001_1010_1_1010_0000_0011_11000101#32 = some (.cmpImm .mi 10#4 0x3#4 0xC5#8) ∧
    decodeArm 0b0011_001_1011_1_1010_0000_0011_11000101#32 = some (.cmnImm .cc 10#4 0x3#4 0xC5#8) ∧
    decodeArm 0b0010_001_1100_0_1010_0101_0011_11000101#32 = some (.orrImm .cs false 10#4 5#4 0x3#4 0xC5#8) ∧
    decodeArm 0b0001_001_1101_1_0000_0101_0011_11000101#32 = some (.movImm .ne true 5#4 0x3#4 0xC5#8) ∧
    decodeArm 0b0000_001_1110_0_1010_0101_0011_11000101#32 = some (.bicImm .eq false 10#4 5#4 0x3#4 0xC5#8) ∧
    decodeArm 0b1111_001_1111_1_0000_0101_0011_11000101#32 = some (.mvnImm .nv true 5#4 0x3#4 0xC5#8) := by decide

theorem test_decode_A2_a :
    decodeArm 0b0011_000_0000_1_1010_0101_10011_01_0_0110#32 = some (.andShImm .cc true 10#4 5#4 0x13#5 .lsr 6#4) ∧
    decodeArm 0b0010_000_0001_0_1010_0101_10011_10_0_0110#32 = some (.eorShImm .cs false 10#4 5#4 0x13#5 .asr 6#4) ∧
    decodeArm 0b0001_000_0010_1_1010_0101_10011_11_0_0110#32 = some (.subShImm .ne true 10#4 5#4 0x13#5 .ror 6#4) ∧
    decodeArm 0b0000_000_0011_0_1010_0101_10011_00_0_0110#32 = some (.rsbShImm .eq false 10#4 5#4 0x13#5 .lsl 6#4) ∧
    decodeArm 0b1111_000_0100_1_1010_0101_10011_01_0_0110#32 = some (.addShImm .nv true 10#4 5#4 0x13#5 .lsr 6#4) ∧
    decodeArm 0b1110_000_0101_0_1010_0101_10011_10_0_0110#32 = some (.adcShImm .al false 10#4 5#4 0x13#5 .asr 6#4) ∧
    decodeArm 0b1101_000_0110_1_1010_0101_10011_11_0_0110#32 = some (.sbcShImm .le true 10#4 5#4 0x13#5 .ror 6#4) ∧
    decodeArm 0b1100_000_0111_0_1010_0101_10011_00_0_0110#32 = some (.rscShImm .gt false 10#4 5#4 0x13#5 .lsl 6#4) := by decide

theorem test_decode_A2_b :
    decodeArm 0b1011_000_1000_1_1010_0000_10011_01_0_0110#32 = some (.tstShImm .lt 10#4 0x13#5 .lsr 6#4) ∧
    decodeArm 0b1010_000_1001_1_1010_0000_10011_10_0_0110#32 = some (.teqShImm .ge 10#4 0x13#5 .asr 6#4) ∧
    decodeArm 0b1001_000_1010_1_1010_0000_10011_11_0_0110#32 = some (.cmpShImm .ls 10#4 0x13#5 .ror 6#4) ∧
    decodeArm 0b1000_000_1011_1_1010_0000_10011_00_0_0110#32 = some (.cmnShImm .hi 10#4 0x13#5 .lsl 6#4) ∧
    decodeArm 0b0111_000_1100_1_1010_0101_10011_01_0_0110#32 = some (.orrShImm .vc true 10#4 5#4 0x13#5 .lsr 6#4) ∧
    decodeArm 0b0110_000_1101_0_0000_0101_10011_10_0_0110#32 = some (.movShImm .vs false 5#4 0x13#5 .asr 6#4) ∧
    decodeArm 0b0101_000_1110_1_1010_0101_10011_11_0_0110#32 = some (.bicShImm .pl true 10#4 5#4 0x13#5 .ror 6#4) ∧
    decodeArm 0b0100_000_1111_0_0000_0101_10011_00_0_0110#32 = some (.mvnShImm .mi false 5#4 0x13#5 .lsl 6#4) := by decide

theorem test_decode_A3_a :
    decodeArm 0b1000_000_0000_0_1010_0101_1001_0_01_1_0110#32 = some (.andShReg .hi false 10#4 5#4 9#4 .lsr 6#4) ∧
    decodeArm 0b0111_000_0001_1_1010_0101_1001_0_10_1_0110#32 = some (.eorShReg .vc true 10#4 5#4 9#4 .asr 6#4) ∧
    decodeArm 0b0110_000_0010_0_1010_0101_1001_0_11_1_0110#32 = some (.subShReg .vs false 10#4 5#4 9#4 .ror 6#4) ∧
    decodeArm 0b0101_000_0011_1_1010_0101_1001_0_00_1_0110#32 = some (.rsbShReg .pl true 10#4 5#4 9#4 .lsl 6#4) ∧
    decodeArm 0b0100_000_0100_0_1010_0101_1001_0_01_1_0110#32 = some (.addShReg .mi false 10#4 5#4 9#4 .lsr 6#4) ∧
    decodeArm 0b0011_000_0101_1_1010_0101_1001_0_10_1_0110#32 = some (.adcShReg .cc true 10#4 5#4 9#4 .asr 6#4) ∧
    decodeArm 0b0010_000_0110_0_1010_0101_1001_0_11_1_0110#32 = some (.sbcShReg .cs false 10#4 5#4 9#4 .ror 6#4) ∧
    decodeArm 0b0001_000_0111_1_1010_0101_1001_0_00_1_0110#32 = some (.rscShReg .ne true 10#4 5#4 9#4 .lsl 6#4) := by decide

theorem test_decode_A3_b :
    decodeArm 0b0000_000_1000_1_1010_0000_1001_0_01_1_0110#32 = some (.tstShReg .eq 10#4 9#4 .lsr 6#4) ∧
    decodeArm 0b1111_000_1001_1_1010_0000_1001_0_10_1_0110#32 = some (.teqShReg .nv 10#4 9#4 .asr 6#4) ∧
    decodeArm 0b1110_000_1010_1_1010_0000_1001_0_11_1_0110#32 = some (.cmpShReg .al 10#4 9#4 .ror 6#4) ∧
    decodeArm 0b1101_000_1011_1_1010_0000_1001_0_00_1_0110#32 = some (.cmnShReg .le 10#4 9#4 .lsl 6#4) ∧
    decodeArm 0b1100_000_1100_0_1010_0101_1001_0_01_1_0110#32 = some (.orrShReg .gt false 10#4 5#4 9#4 .lsr 6#4) ∧
    decodeArm 0b1011_000_1101_1_0000_0101_1001_0_10_1_0110#32 = some (.movShReg .lt true 5#4 9#4 .asr 6#4) ∧
    decodeArm 0b1010_000_1110_0_1010_0101_1001_0_11_1_0110#32 = some (.bicShReg .ge false 10#4 5#4 9#4 .ror 6#4) ∧
    decodeArm 0b1001_000_1111_1_0000_0101_1001_0_00_1_0110#32 = some (.mvnShReg .ls true 5#4 9#4 .lsl 6#4) := by decide

theorem test_decode_A4 :
    decodeArm 0b1110_00010_0_00_1111_0101_000000000000#32 = some (.mrs .al false 5#4) := by decide

theorem test_decode_A5 :
    decodeArm 0b0011_00010_1_10_1001_1111_00000000_0110#32 = some (.msrReg .cc true 0x9#4 6#4) := by decide

theorem test_decode_A6 :
    decodeArm 0b1000_00110_0_10_1001_1111_0011_11000101#32 = some (.msrImm .hi false 0x9#4 0x3#4 0xC5#8) := by decide

theorem test_decode_A7 :
    decodeArm 0b1101_00010010_1111_1111_11110001_0110#32 = some (.bx .le 6#4) := by decide

theorem test_decode_A8 :
    decodeArm 0b0010_010_0_0_0_1_1_1010_0101_101011000011#32 = some (.ldrImm .cs false false true 10#4 5#4 0xAC3#12) ∧
    decodeArm 0b1100_010_0_1_0_1_0_1010_0101_101011000011#32 = some (.strImm .gt false true true 10#4 5#4 0xAC3#12) ∧
    decodeArm 0b0110_010_0_0_1_0_1_1010_0101_101011000011#32 = some (.ldrbImm .vs false false false 10#4 5#4 0xAC3#12) ∧
    decodeArm 0b0000_010_0_1_1_0_0_1010_0101_101011000011#32 = some (.strbImm .eq false true false 10#4 5#4 0xAC3#12) := by decide

theorem test_decode_A9 :
    decodeArm 0b0111_011_1_0_0_1_1_1010_0101_10011_10_0_0110#32 = some (.ldrReg .vc true false true 10#4 5#4 0x13#5 .asr 6#4) ∧
    decodeArm 0b0001_011_1_1_0_1_0_1010_0101_10011_11_0_0110#32 = some (.strReg .ne true true true 10#4 5#4 0x13#5 .ror 6#4) ∧
    decodeArm 0b1011_011_1_0_1_0_1_1010_0101_10011_00_0_0110#32 = some (.ldrbReg .lt true false false 10#4 5#4 0x13#5 .lsl 6#4) ∧
    decodeArm 0b0101_011_1_1_1_0_0_1010_0101_10011_00_0_0110#32 = some (.strbReg .pl true true false 10#4 5#4 0x13#5 .lsl 6#4) := by decide

theorem test_decode_A13 :
    decodeArm 0b1010_011_00000000000000000000_1_0000#32 = some (.undefArch .ge) := by decide

theorem test_decode_A10 :
    decodeArm 0b1111_100_1_0_0_1_1_1010_1000000100100011#32 = some (.ldm .nv true false false true 10#4 0x8123#16) ∧
    decodeArm 0b0100_100_0_1_1_1_0_1010_1000000100100011#32 = some (.stm .mi false true true true 10#4 0x8123#16) := by decide

theorem test_decode_A11 :
    decodeArm 0b1001_101_0_100100100011010001010110#32 = some (.b .ls 0x248D158#26) ∧
    decodeArm 0b1110_101_1_100100100011010001010110#32 = some (.bl .al 0x248D158#26) := by decide

theorem test_decode_A19 :
    decodeArm 0b0011_110_0000000000000000000000000#32 = some (.undefCopTransfer .cc) := by decide

theorem test_decode_A20 :
    decodeArm 0b1000_1110_000000000000000000000000#32 = some (.undefCopOp .hi) := by decide

theorem test_decode_A12 :
    decodeArm 0b1101_1111_101000010011010001010111#32 = some (.swi .le 0xA13457#24) := by decide

theorem test_decode_A14 :
    decodeArm 0b0010_000000_0_0_0101_0000_1001_1001_0110#32 = some (.mul .cs false 5#4 9#4 6#4) ∧
    decodeArm 0b0111_000000_1_1_0101_1010_1001_1001_0110#32 = some (.mla .vc true 5#4 10#4 9#4 6#4) := by decide

theorem test_decode_A15 :
    decodeArm 0b1100_00001_0_0_0_1100_0011_1001_1001_0110#32 = some (.umull .gt false 12#4 3#4 9#4 6#4) ∧
    decodeArm 0b0001_00001_0_1_1_1100_0011_1001_1001_0110#32 = some (.umlal .ne true 12#4 3#4 9#4 6#4) ∧
    decodeArm 0b0110_00001_1_0_0_1100_0011_1001_1001_0110#32 = some (.smull .vs false 12#4 3#4 9#4 6#4) ∧
    decodeArm 0b1011_00001_1_1_1_1100_0011_1001_1001_0110#32 = some (.smlal .lt true 12#4 3#4 9#4 6#4) := by decide

theorem test_decode_A16 :
    decodeArm 0b0000_00010_0_00_1010_0101_0000_1001_0110#32 = some (.swp .eq 10#4 5#4 6#4) ∧
    decodeArm 0b0101_00010_1_00_1010_0101_0000_1001_0110#32 = some (.swpb .pl 10#4 5#4 6#4) := by decide

theorem test_decode_A17 :
    decodeArm 0b1010_000_0_0_0_1_0_1010_0101_0000_1_0_1_1_0110#32 = some (.strhReg .ge false false true 10#4 5#4 6#4) ∧
    decodeArm 0b0100_000_0_1_0_1_1_1010_0101_0000_1_0_1_1_0110#32 = some (.ldrhReg .mi false true true 10#4 5#4 6#4) ∧
    decodeArm 0b1110_000_0_0_0_0_1_1010_0101_0000_1_1_0_1_0110#32 = some (.ldrsbReg .al false false false 10#4 5#4 6#4) ∧
    decodeArm 0b1000_000_0_1_0_0_1_1010_0101_0000_1_1_1_1_0110#32 = some (.ldrshReg .hi false true false 10#4 5#4 6#4) := by decide

theorem test_decode_A18 :
    decodeArm 0b1111_000_1_0_1_1_0_1010_0101_1010_1_0_1_1_0111#32 = some (.strhImm .nv true false true 10#4 5#4 0xA7#8) ∧
    decodeArm 0b1001_000_1_1_1_1_1_1010_0101_1010_1_0_1_1_0111#32 = some (.ldrhImm .ls true true true 10#4 5#4 0xA7#8) ∧
    decodeArm 0b0011_000_1_0_1_0_1_1010_0101_1010_1_1_0_1_0111#32 = some (.ldrsbImm .cc true false false 10#4 5#4 0xA7#8) ∧
    decodeArm 0b1101_000_1_1_1_0_1_1010_0101_1010_1_1_1_1_0111#32 = some (.ldrshImm .le true true false 10#4 5#4 0xA7#8) := by decide

theorem test_decode_DW :
    decodeArm 0b0010_000_0000_0_000000000000_1_1_0_1_0000#32 = some (.undefDoubleword .cs) := by decide

theorem test_decode_T1 :
    decodeThumb 0b000_00_10110_011_101#16 = some (.tLslImm 5#3 3#3 0x16#5) ∧
    decodeThumb 0b000_01_10110_011_101#16 = some (.tLsrImm 5#3 3#3 0x16#5) ∧
    decodeThumb 0b000_10_10110_011_101#16 = some (.tAsrImm 5#3 3#3 0x16#5) := by decide

theorem test_decode_T2 :
    decodeThumb 0b00011_0_0_110_011_101#16 = some (.tAddReg 5#3 3#3 6#3) ∧
    decodeThumb 0b00011_0_1_110_011_101#16 = some (.tSubReg 5#3 3#3 6#3) ∧
    decodeThumb 0b00011_1_0_110_011_101#16 = some (.tAddImm3 5#3 3#3 0x6#3) ∧
    decodeThumb 0b00011_1_1_110_011_101#16 = some (.tSubImm3 5#3 3#3 0x6#3) := by decide

theorem test_decode_T3 :
    decodeThumb 0b001_00_101_10100110#16 = some (.tMovImm8 5#3 0xA6#8) ∧
    decodeThumb 0b001_01_101_10100110#16 = some (.tCmpImm8 5#3 0xA6#8) ∧
    decodeThumb 0b001_10_101_10100110#16 = some (.tAddImm8 5#3 0xA6#8) ∧
    decodeThumb 0b001_11_101_10100110#16 = some (.tSubImm8 5#3 0xA6#8) := by decide

theorem test_decode_T4_a :
    decodeThumb 0b010000_0000_011_101#16 = some (.tAnd 5#3 3#3) ∧
    decodeThumb 0b010000_0001_011_101#16 = some (.tEor 5#3 3#3) ∧
    decodeThumb 0b010000_0010_011_101#16 = some (.tLsl 5#3 3#3) ∧
    decodeThumb 0b010000_0011_011_101#16 = some (.tLsr 5#3 3#3) ∧
    decodeThumb 0b010000_0100_011_101#16 = some (.tAsr 5#3 3#3) ∧
    decodeThumb 0b010000_0101_011_101#16 = some (.tAdc 5#3 3#3) ∧
    decodeThumb 0b010000_0110_011_101#16 = some (.tSbc 5#3 3#3) ∧
    decodeThumb 0b010000_0111_011_101#16 = some (.tRor 5#3 3#3) := by decide

theorem test_decode_T4_b :
    decodeThumb 0b010000_1000_011_101#16 = some (.tTst 5#3 3#3) ∧
    decodeThumb 0b010000_1001_011_101#16 = some (.tNeg 5#3 3#3) ∧
    decodeThumb 0b010000_1010_011_101#16 = some (.tCmp 5#3 3#3) ∧
    decodeThumb 0b010000_1011_011_101#16 = some (.tCmn 5#3 3#3) ∧
    decodeThumb 0b010000_1100_011_101#16 = some (.tOrr 5#3 3#3) ∧
    decodeThumb 0b010000_1101_011_101#16 = some (.tMul 5#3 3#3) ∧
    decodeThumb 0b010000_1110_011_101#16 = some (.tBic 5#3 3#3) ∧
    decodeThumb 0b010000_1111_011_101#16 = some (.tMvn 5#3 3#3) := by decide

theorem test_decode_T5 :
    decodeThumb 0b010001_00_1_0_011_101#16 = some (.tAddHi 13#4 3#4) ∧
    decodeThumb 0b010001_01_1_0_011_101#16 = some (.tCmpHi 13#4 3#4) ∧
    decodeThumb 0b010001_10_1_0_011_101#16 = some (.tMovHi 13#4 3#4) ∧
    decodeThumb 0b010001_11_0_1_011_000#16 = some (.tBx 11#4) ∧
    decodeThumb 0b010001_11_1_0_000_000#16 = some .tUndefBxH1 := by decide

theorem test_decode_T6 :
    decodeThumb 0b01001_101_10100110#16 = some (.tLdrPc 5#3 0x298#10) := by decide

theorem test_decode_T7 :
    decodeThumb 0b0101_0_0_0_110_010_101#16 = some (.tStrReg 5#3 2#3 6#3) ∧
    decodeThumb 0b0101_0_1_0_110_010_101#16 = some (.tStrbReg 5#3 2#3 6#3) ∧
    decodeThumb 0b0101_1_0_0_110_010_101#16 = some (.tLdrReg 5#3 2#3 6#3) ∧
    decodeThumb 0b0101_1_1_0_110_010_101#16 = some (.tLdrbReg 5#3 2#3 6#3) := by decide

theorem test_decode_T8 :
    decodeThumb 0b0101_0_0_1_110_010_101#16 = some (.tStrhReg 5#3 2#3 6#3) ∧
    decodeThumb 0b0101_0_1_1_110_010_101#16 = some (.tLdsbReg 5#3 2#3 6#3) ∧
    decodeThumb 0b0101_1_0_1_110_010_101#16 = some (.tLdrhReg 5#3 2#3 6#3) ∧
    decodeThumb 0b0101_1_1_1_110_010_101#16 = some (.tLdshReg 5#3 2#3 6#3) := by decide

theorem test_decode_T9 :
    decodeThumb 0b011_0_0_10110_010_101#16 = some (.tStrImm 5#3 2#3 0x58#7) ∧
    decodeThumb 0b011_0_1_10110_010_101#16 = some (.tLdrImm 5#3 2#3 0x58#7) ∧
    decodeThumb 0b011_1_0_10110_010_101#16 = some (.tStrbImm 5#3 2#3 0x16#5) ∧
    decodeThumb 0b011_1_1_10110_010_101#16 = some (.tLdrbImm 5#3 2#3 0x16#5) := by decide

theorem test_decode_T10 :
    decodeThumb 0b1000_0_10110_010_101#16 = some (.tStrhImm 5#3 2#3 0x2C#6) ∧
    decodeThumb 0b1000_1_10110_010_101#16 = some (.tLdrhImm 5#3 2#3 0x2C#6) := by decide

theorem test_decode_T11 :
    decodeThumb 0b1001_0_101_10100110#16 = some (.tStrSp 5#3 0x298#10) ∧
    decodeThumb 0b1001_1_101_10100110#16 = some (.tLdrSp 5#3 0x298#10) := by decide

theorem test_decode_T12 :
    decodeThumb 0b1010_0_101_10100110#16 = some (.tAddPc 5#3 0x298#10) ∧
    decodeThumb 0b1010_1_101_10100110#16 = some (.tAddSp 5#3 0x298#10) := by decide

theorem test_decode_T13 :
    decodeThumb 0b10110000_0_1010011#16 = some (.tAddSpPos 0x14C#9) ∧
    decodeThumb 0b10110000_1_1010011#16 = some (.tAddSpNeg 0x14C#9) := by decide

theorem test_decode_unused :
    decodeThumb 0b1011_0001_00000000#16 = some .tUndefB1 ∧
    decodeThumb 0b1011_0010_00000000#16 = some .tUndefB2 ∧
    decodeThumb 0b1011_0110_00000000#16 = some .tUndefB6 ∧
    decodeThumb 0b1011_1000_00000000#16 = some .tUndefB8 ∧
    decodeThumb 0b1011_1110_00000000#16 = some .tUndefBe ∧
    decodeThumb 0b11101_00000000000#16 = some .tUndefBlxSuffix := by decide

theorem test_decode_T14 :
    decodeThumb 0b1011_0_10_0_10010110#16 = some (.tPush false 0x96#8) ∧
    decodeThumb 0b1011_1_10_1_10010110#16 = some (.tPop true 0x96#8) := by decide

theorem test_decode_T15 :
    decodeThumb 0b1100_0_010_10010110#16 = some (.tStmia 2#3 0x96#8) ∧
    decodeThumb 0b1100_1_010_10010110#16 = some (.tLdmia 2#3 0x96#8) := by decide

theorem test_decode_T16_a :
    decodeThumb 0b1101_0000_10100110#16 = some (.tBeq 0x14C#9) ∧
    decodeThumb 0b1101_0001_10100110#16 = some (.tBne 0x14C#9) ∧
    decodeThumb 0b1101_0010_10100110#16 = some (.tBcs 0x14C#9) ∧
    decodeThumb 0b1101_0011_10100110#16 = some (.tBcc 0x14C#9) ∧
    decodeThumb 0b1101_0100_10100110#16 = some (.tBmi 0x14C#9) ∧
    decodeThumb 0b1101_0101_10100110#16 = some (.tBpl 0x14C#9) ∧
    decodeThumb 0b1101_0110_10100110#16 = some (.tBvs 0x14C#9) ∧
    decodeThumb 0b1101_0111_10100110#16 = some (.tBvc 0x14C#9) := by decide

theorem test_decode_T16_b :
    decodeThumb 0b1101_1000_10100110#16 = some (.tBhi 0x14C#9) ∧
    decodeThumb 0b1101_1001_10100110#16 = some (.tBls 0x14C#9) ∧
    decodeThumb 0b1101_1010_10100110#16 = some (.tBge 0x14C#9) ∧
    decodeThumb 0b1101_1011_10100110#16 = some (.tBlt 0x14C#9) ∧
    decodeThumb 0b1101_1100_10100110#16 = some (.tBgt 0x14C#9) ∧
    decodeThumb 0b1101_1101_10100110#16 = some (.tBle 0x14C#9) ∧
    decodeThumb 0b1101_1110_00000000#16 = some .tUndefCond14 := by decide

theorem test_decode_T17 :
    decodeThumb 0b11011111_10100110#16 = some (.tSwi 0xA6#8) := by decide

theorem test_decode_T18 :
    decodeThumb 0b11100_10110011101#16 = some (.tB 0xB3A#12) := by decide

theorem test_decode_T19 :
    decodeThumb 0b1111_0_10110011101#16 = some (.tBlHi 0x59D#11) ∧
    decodeThumb 0b1111_1_10110011101#16 = some (.tBlLo 0x59D#11) := by decide

/-- A word with no row is rejected by name; too few bytes are rejected. -/
theorem test_decode_rejects :
    decodeArm 0b1110_00010000_0000_0000_0000_0000_0000#32 = none ∧
    decodeArm 0b1110_00010010_0000_0000_0000_0001_0000#32 = none ∧
    (match decodeBytes false [0#8, 0#8, 0x00#8, 0xE1#8] with | .error e => some e | .ok _ => none) = some .unrecognized ∧
    (match decodeBytes false [0#8, 0#8, 0#8] with | .error e => some e | .ok _ => none) = some .truncated ∧
    (match decodeBytes true [0#8] with | .error e => some e | .ok _ => none) = some .truncated := by decide

/-- The ignored fields of MOV, TST, halfword transfers and BX do not change what a word stands for (30_encoding.md R125). -/
theorem test_decode_ignored :
    decodeArm 0b1110_000_1101_0_1111_0101_00000_00_0_0110#32 = some (.movShImm .al false 5#4 0#5 .lsl 6#4) ∧
    decodeArm 0b1110_001_1000_1_1010_1111_0000_00000001#32 = some (.tstImm .al 10#4 0#4 1#8) ∧
    decodeArm 0b1110_000_1_1_0_0_1_1010_0101_1111_1_0_1_1_0110#32 = some (.ldrhReg .al true true false 10#4 5#4 6#4) ∧
    decodeThumb 0b010001_11_0_1_011_111#16 = some (.tBx 11#4) := by decide

/-- Bytes: the first byte is the least significant (20_memory.md R77). -/
theorem test_decode_bytes :
    (match decodeBytes false [0x02#8, 0x00#8, 0x91#8, 0xE0#8, 0x77#8] with | .ok r => some r | .error _ => none)
      = some (.addShImm .al true 1#4 0#4 0#5 .lsl 2#4, [0x77#8]) ∧
    (match decodeBytes true [0x05#8, 0xDF#8] with | .ok r => some r | .error _ => none) = some (.tSwi 5#8, []) ∧
    decodeTableWord 32 0xE0910002 = some (.addShImm .al true 1#4 0#4 0#5 .lsl 2#4) ∧
    decodeTableWord 16 0xDF05 = some (.tSwi 5#8) := by decide

/-! ## Well-formedness: each check refuses an ill-formed term -/

theorem test_wf_refuses_branch : (Instr.b .al 2#26).wf = false ∧ (Instr.bl .al 1#26).wf = false := by decide
theorem test_wf_refuses_word_offset :
    (Instr.tLdrPc 0#3 2#10).wf = false ∧ (Instr.tStrImm 0#3 0#3 1#7).wf = false ∧ (Instr.tLdrImm 0#3 0#3 2#7).wf = false ∧
    (Instr.tStrSp 0#3 3#10).wf = false ∧ (Instr.tLdrSp 0#3 1#10).wf = false ∧ (Instr.tAddPc 0#3 2#10).wf = false ∧
    (Instr.tAddSp 0#3 1#10).wf = false ∧ (Instr.tAddSpPos 2#9).wf = false ∧ (Instr.tAddSpNeg 1#9).wf = false := by decide
theorem test_wf_refuses_half_offset : (Instr.tStrhImm 0#3 0#3 1#6).wf = false ∧ (Instr.tLdrhImm 0#3 0#3 3#6).wf = false := by decide
theorem test_wf_refuses_thumb_branch :
    (Instr.tBeq 1#9).wf = false ∧ (Instr.tBne 1#9).wf = false ∧ (Instr.tBcs 1#9).wf = false ∧ (Instr.tBcc 1#9).wf = false ∧
    (Instr.tBmi 1#9).wf = false ∧ (Instr.tBpl 1#9).wf = false ∧ (Instr.tBvs 1#9).wf = false ∧ (Instr.tBvc 1#9).wf = false ∧
    (Instr.tBhi 1#9).wf = false ∧ (Instr.tBls 1#9).wf = false ∧ (Instr.tBge 1#9).wf = false ∧ (Instr.tBlt 1#9).wf = false ∧
    (Instr.tBgt 1#9).wf = false ∧ (Instr.tBle 1#9).wf = false ∧ (Instr.tB 1#12).wf = false := by decide

/-! ## The shared computations, from 95_test_vectors.md -/

/-- 2.1. -/
theorem test_addWithCarry :
    addWithCarry 0xFFFFFFFF#32 1#32 false = ⟨0#32, true, false⟩ ∧ addWithCarry 0x7FFFFFFF#32 1#32 false = ⟨0x80000000#32, false, true⟩ ∧
    addWithCarry 0x80000000#32 0x80000000#32 false = ⟨0#32, true, true⟩ ∧
    addWithCarry 0xFFFFFFFF#32 0xFFFFFFFF#32 true = ⟨0xFFFFFFFF#32, true, false⟩ ∧
    addWithCarry 3#32 0xFFFFFFFA#32 true = ⟨0xFFFFFFFE#32, false, false⟩ ∧
    addWithCarry 0x80000000#32 0xFFFFFFFE#32 true = ⟨0x7FFFFFFF#32, true, true⟩ ∧
    addWithCarry 0#32 0x7FFFFFFF#32 true = ⟨0x80000000#32, false, true⟩ := by decide

/-- 2.2: the five columns of the condition table, condition 0000 to 1111. -/
theorem test_conditions :
    (List.range 16).map (fun k => [0x0#4, 0x4#4, 0x2#4, 0x8#4, 0x9#4].map (fun f =>
      condHolds (Cond.ofBits (BitVec.ofNat 4 k))
        ⟨f.getLsbD 3, f.getLsbD 2, f.getLsbD 1, f.getLsbD 0, false, false, false, .sys⟩)) =
    [[false, true, false, false, false], [true, false, true, true, true], [false, false, true, false, false],
     [true, true, false, true, true], [false, false, false, true, true], [true, true, true, false, false],
     [false, false, false, false, true], [true, true, true, true, false], [false, false, true, false, false],
     [true, true, false, true, true], [true, true, true, false, true], [false, false, false, true, false],
     [true, false, true, false, true], [false, true, false, true, false], [true, true, true, true, true],
     [false, false, false, false, false]] := by decide

/-! ## One step each, from 95_test_vectors.md -/

/-- 2.3: MOVS r0, #0xFF000000 (imm8 0xFF, rot 4). -/
theorem test_movImm :
    leads (runArm 0xE3B004FF#32 (at_ 0x1F#32 [] []))
      (fun t => t.x 0#4 == 0xFF000000#32 && flags t == 10#32 && t.pc == 0x08000004#32) = true := by decide

/-- 2.3: MOVS r0, r1 (LSL #0). -/
theorem test_movShImm :
    leads (runArm 0xE1B00001#32 (at_ 0x2000001F#32 [(1#4, 0x80000001#32)] []))
      (fun t => t.x 0#4 == 0x80000001#32 && flags t == 10#32 && t.pc == 0x08000004#32) = true := by decide

/-- 2.4: MOVS pc, lr in IRQ mode. -/
theorem test_movShImm_second :
    leads (runArm 0xE1B0F00E#32 (withSaved .irq 0x6000003F#32 (at_ 0x92#32 [(14#4, 0x8000103#32)] [])))
      (fun t => cpsrWord t.cpsr == 0x6000003F#32 && t.pc == 0x08000102#32) = true := by decide

/-- 2.3: ORRS r0, r1, r2, LSL #31. -/
theorem test_orrShImm :
    leads (runArm 0xE1910F82#32 (at_ 0x1F#32 [(1#4, 0x0#32), (2#4, 0x3#32)] []))
      (fun t => t.x 0#4 == 0x80000000#32 && flags t == 10#32 && t.pc == 0x08000004#32) = true := by decide

/-- 2.3: MOVS r0, r1, LSL r2. -/
theorem test_movShReg :
    leads (runArm 0xE1B00211#32 (at_ 0x1F#32 [(1#4, 0x1#32), (2#4, 0x20#32)] []))
      (fun t => t.x 0#4 == 0x0#32 && flags t == 6#32 && t.pc == 0x08000004#32) = true := by decide

/-- 2.3: MOV r0, pc, LSL r2. -/
theorem test_movShReg_second :
    leads (runArm 0xE1A0021F#32 (at_ 0x1F#32 [(2#4, 0x0#32)] []))
      (fun t => t.x 0#4 == 0x800000C#32 && t.pc == 0x08000004#32) = true := by decide

/-- 2.3: ADD r0, pc, #4. -/
theorem test_addImm :
    leads (runArm 0xE28F0004#32 (at_ 0x1F#32 [] []))
      (fun t => t.x 0#4 == 0x800000C#32 && t.pc == 0x08000004#32) = true := by decide

/-- 2.4: AND r0, r1, r2. -/
theorem test_andShImm :
    leads (runArm 0xE0010002#32 (at_ 0x1F#32 [(1#4, 0xF0F0F0F0#32), (2#4, 0xFF00FF0#32)] []))
      (fun t => t.x 0#4 == 0xF000F0#32 && t.pc == 0x08000004#32) = true := by decide

/-- 2.4: EORS r0, r1, r2. -/
theorem test_eorShImm :
    leads (runArm 0xE0310002#32 (at_ 0x1F#32 [(1#4, 0x12345678#32), (2#4, 0x12345678#32)] []))
      (fun t => t.x 0#4 == 0x0#32 && flags t == 4#32 && t.pc == 0x08000004#32) = true := by decide

/-- 2.4: SUBS r0, r1, r2. -/
theorem test_subShImm :
    leads (runArm 0xE0510002#32 (at_ 0x1F#32 [(1#4, 0x5#32), (2#4, 0x5#32)] []))
      (fun t => t.x 0#4 == 0x0#32 && flags t == 6#32 && t.pc == 0x08000004#32) = true := by decide

/-- 2.4: SUBS r0, r1, r2. -/
theorem test_subShImm_second :
    leads (runArm 0xE0510002#32 (at_ 0x1F#32 [(1#4, 0x80000000#32), (2#4, 0x1#32)] []))
      (fun t => t.x 0#4 == 0x7FFFFFFF#32 && flags t == 3#32 && t.pc == 0x08000004#32) = true := by decide

/-- 2.4: RSBS r0, r1, #0. -/
theorem test_rsbImm :
    leads (runArm 0xE2710000#32 (at_ 0x1F#32 [(1#4, 0x1#32)] []))
      (fun t => t.x 0#4 == 0xFFFFFFFF#32 && flags t == 8#32 && t.pc == 0x08000004#32) = true := by decide

/-- 2.4: ADDS r0, r1, r2. -/
theorem test_addShImm :
    leads (runArm 0xE0910002#32 (at_ 0x1F#32 [(1#4, 0xFFFFFFFF#32), (2#4, 0x1#32)] []))
      (fun t => t.x 0#4 == 0x0#32 && flags t == 6#32 && t.pc == 0x08000004#32) = true := by decide

/-- 2.4: ADDS r0, r1, r2. -/
theorem test_addShImm_second :
    leads (runArm 0xE0910002#32 (at_ 0x1F#32 [(1#4, 0x80000000#32), (2#4, 0x80000000#32)] []))
      (fun t => t.x 0#4 == 0x0#32 && flags t == 7#32 && t.pc == 0x08000004#32) = true := by decide

/-- 2.4: ADCS r0, r1, r2. -/
theorem test_adcShImm :
    leads (runArm 0xE0B10002#32 (at_ 0x2000001F#32 [(1#4, 0xFFFFFFFF#32), (2#4, 0x0#32)] []))
      (fun t => t.x 0#4 == 0x0#32 && flags t == 6#32 && t.pc == 0x08000004#32) = true := by decide

/-- 2.4: SBCS r0, r1, r2. -/
theorem test_sbcShImm :
    leads (runArm 0xE0D10002#32 (at_ 0x1F#32 [(1#4, 0x5#32), (2#4, 0x5#32)] []))
      (fun t => t.x 0#4 == 0xFFFFFFFF#32 && flags t == 8#32 && t.pc == 0x08000004#32) = true := by decide

/-- 2.4: SBCS r0, r1, r2. -/
theorem test_sbcShImm_second :
    leads (runArm 0xE0D10002#32 (at_ 0x2000001F#32 [(1#4, 0x5#32), (2#4, 0x5#32)] []))
      (fun t => t.x 0#4 == 0x0#32 && flags t == 6#32 && t.pc == 0x08000004#32) = true := by decide

/-- 2.4: RSCS r0, r1, r2. -/
theorem test_rscShImm :
    leads (runArm 0xE0F10002#32 (at_ 0x2000001F#32 [(1#4, 0x1#32), (2#4, 0x3#32)] []))
      (fun t => t.x 0#4 == 0x2#32 && flags t == 2#32 && t.pc == 0x08000004#32) = true := by decide

/-- 2.4: TST r1, #0x80000000. -/
theorem test_tstImm :
    leads (runArm 0xE3110102#32 (at_ 0x1F#32 [(1#4, 0x80000001#32)] []))
      (fun t => flags t == 10#32 && t.pc == 0x08000004#32) = true := by decide

/-- 2.4: TEQ r1, r2. -/
theorem test_teqShImm :
    leads (runArm 0xE1310002#32 (at_ 0x1F#32 [(1#4, 0x7#32), (2#4, 0x7#32)] []))
      (fun t => flags t == 4#32 && t.pc == 0x08000004#32) = true := by decide

/-- 2.4: CMP r1, #0. -/
theorem test_cmpImm :
    leads (runArm 0xE3510000#32 (at_ 0x1F#32 [(1#4, 0x0#32)] []))
      (fun t => flags t == 6#32 && t.pc == 0x08000004#32) = true := by decide

/-- 2.4: CMN r1, #1. -/
theorem test_cmnImm :
    leads (runArm 0xE3710001#32 (at_ 0x1F#32 [(1#4, 0xFFFFFFFF#32)] []))
      (fun t => flags t == 6#32 && t.pc == 0x08000004#32) = true := by decide

/-- 2.4: BICS r0, r1, #0xFF. -/
theorem test_bicImm :
    leads (runArm 0xE3D100FF#32 (at_ 0x1F#32 [(1#4, 0xFF#32)] []))
      (fun t => t.x 0#4 == 0x0#32 && flags t == 4#32 && t.pc == 0x08000004#32) = true := by decide

/-- 2.4: MVNS r0, #0. -/
theorem test_mvnImm :
    leads (runArm 0xE3F00000#32 (at_ 0x1F#32 [] []))
      (fun t => t.x 0#4 == 0xFFFFFFFF#32 && flags t == 8#32 && t.pc == 0x08000004#32) = true := by decide

/-- 2.4: SUBS pc, lr, #4 in IRQ mode. -/
theorem test_subImm :
    leads (runArm 0xE25EF004#32 (withSaved .irq 0x6000001F#32 (at_ 0x92#32 [(14#4, 0x8000104#32)] [])))
      (fun t => cpsrWord t.cpsr == 0x6000001F#32 && t.pc == 0x08000100#32) = true := by decide

/-- 2.5: LDR r0, [r1]. -/
theorem test_ldrImm :
    leads (runArm 0xE5910000#32 (at_ 0x1F#32 [(1#4, 0x3000000#32)] [(0x3000000#32, 0xAABBCCDD#32), (0x3000004#32, 0x11223344#32), (0x3000008#32, 0x55667788#32)]))
      (fun t => t.x 0#4 == 0xAABBCCDD#32 && t.pc == 0x08000004#32) = true := by decide

/-- 2.5: LDR r0, [r1]. -/
theorem test_ldrImm_second :
    leads (runArm 0xE5910000#32 (at_ 0x1F#32 [(1#4, 0x207FFFC#32)] [(0x3000000#32, 0xAABBCCDD#32), (0x3000004#32, 0x11223344#32), (0x3000008#32, 0x55667788#32), (0x203FFFC#32, 0xBADF00D#32)]))
      (fun t => t.x 0#4 == 0xBADF00D#32 && t.pc == 0x08000004#32) = true := by decide

/-- 2.5: LDR r0, [r1, -r2, LSL #2]. -/
theorem test_ldrReg :
    leads (runArm 0xE7110102#32 (at_ 0x1F#32 [(1#4, 0x3000008#32), (2#4, 0x1#32)] [(0x3000000#32, 0xAABBCCDD#32), (0x3000004#32, 0x11223344#32), (0x3000008#32, 0x55667788#32)]))
      (fun t => t.x 0#4 == 0x11223344#32 && t.pc == 0x08000004#32) = true := by decide

/-- 2.5: LDRB r0, [r1, #3]. -/
theorem test_ldrbImm :
    leads (runArm 0xE5D10003#32 (at_ 0x1F#32 [(1#4, 0x3000000#32)] [(0x3000000#32, 0xAABBCCDD#32), (0x3000004#32, 0x11223344#32), (0x3000008#32, 0x55667788#32)]))
      (fun t => t.x 0#4 == 0xAA#32 && t.pc == 0x08000004#32) = true := by decide

/-- 2.5: STR r0, [r1, #-4]!. -/
theorem test_strImm :
    leads (runArm 0xE5210004#32 (at_ 0x1F#32 [(0#4, 0xDEADBEEF#32), (1#4, 0x3000008#32)] [(0x3000000#32, 0xAABBCCDD#32), (0x3000004#32, 0x11223344#32), (0x3000008#32, 0x55667788#32)]))
      (fun t => word t 0x3000004#32 == 0xDEADBEEF#32 && t.x 1#4 == 0x3000004#32 && t.pc == 0x08000004#32) = true := by decide

/-- 2.5: STR pc, [r1]. -/
theorem test_strImm_second :
    leads (runArm 0xE581F000#32 (at_ 0x1F#32 [(1#4, 0x3000000#32)] [(0x3000000#32, 0xAABBCCDD#32), (0x3000004#32, 0x11223344#32), (0x3000008#32, 0x55667788#32)]))
      (fun t => word t 0x3000000#32 == 0x800000C#32 && t.pc == 0x08000004#32) = true := by decide

/-- 2.5: STRB r0, [r1, #1]. -/
theorem test_strbImm :
    leads (runArm 0xE5C10001#32 (at_ 0x1F#32 [(0#4, 0x1EE#32), (1#4, 0x3000000#32)] [(0x3000000#32, 0xAABBCCDD#32), (0x3000004#32, 0x11223344#32), (0x3000008#32, 0x55667788#32)]))
      (fun t => word t 0x3000000#32 == 0xAABBEEDD#32 && t.pc == 0x08000004#32) = true := by decide

/-- 2.6: STMIA r13!, (r0, r1, r2). -/
theorem test_stm :
    leads (runArm 0xE8AD0007#32 (at_ 0x1F#32 [(13#4, 0x3000100#32), (0#4, 0xA0#32), (1#4, 0xA1#32), (2#4, 0xA2#32)] [(0x3000000#32, 0xAABBCCDD#32), (0x3000004#32, 0x11223344#32), (0x3000008#32, 0x55667788#32)]))
      (fun t => word t 0x3000100#32 == 0xA0#32 && word t 0x3000104#32 == 0xA1#32 && word t 0x3000108#32 == 0xA2#32 && t.x 13#4 == 0x300010C#32 && t.pc == 0x08000004#32) = true := by decide

/-- 2.6: STMIA r2!, (r1, r2) (base second). -/
theorem test_stm_second :
    leads (runArm 0xE8A20006#32 (at_ 0x1F#32 [(2#4, 0x3000100#32), (0#4, 0xA0#32), (1#4, 0xA1#32)] [(0x3000000#32, 0xAABBCCDD#32), (0x3000004#32, 0x11223344#32), (0x3000008#32, 0x55667788#32)]))
      (fun t => word t 0x3000100#32 == 0xA1#32 && word t 0x3000104#32 == 0x3000108#32 && t.x 2#4 == 0x3000108#32 && t.pc == 0x08000004#32) = true := by decide

/-- 2.6: LDMIA r1!, (r0, r2). -/
theorem test_ldm :
    leads (runArm 0xE8B10005#32 (at_ 0x1F#32 [(1#4, 0x3000000#32)] [(0x3000000#32, 0xAABBCCDD#32), (0x3000004#32, 0x11223344#32), (0x3000008#32, 0x55667788#32)]))
      (fun t => t.x 0#4 == 0xAABBCCDD#32 && t.x 2#4 == 0x11223344#32 && t.x 1#4 == 0x3000008#32 && t.pc == 0x08000004#32) = true := by decide

/-- 2.6: LDMIA r13!, (pc)^ in IRQ mode. -/
theorem test_ldm_second :
    leads (runArm 0xE8FD8000#32 (withSaved .irq 0x6000003F#32 (at_ 0x92#32 [(13#4, 0x300000C#32)] [(0x3000000#32, 0xAABBCCDD#32), (0x3000004#32, 0x11223344#32), (0x3000008#32, 0x55667788#32), (0x300000C#32, 0x8000103#32)])))
      (fun t => t.xIn .irq 13#4 == 0x3000010#32 && cpsrWord t.cpsr == 0x6000003F#32 && t.pc == 0x08000102#32) = true := by decide

/-- 2.7: B with offset 0. -/
theorem test_b :
    leads (runArm 0xEA000000#32 (at_ 0x1F#32 [] []))
      (fun t => t.pc == 0x08000008#32) = true := by decide

/-- 2.7: BNE with offset 0. -/
theorem test_b_second :
    leads (runArm 0x1A000000#32 (at_ 0x4000001F#32 [] []))
      (fun t => t.pc == 0x08000004#32) = true := by decide

/-- 2.7: BL with offset 0x40. -/
theorem test_bl :
    leads (runArm 0xEB000040#32 (at_ 0x1F#32 [] []))
      (fun t => t.x 14#4 == 0x8000004#32 && t.pc == 0x08000108#32) = true := by decide

/-- 2.7: BX r0. -/
theorem test_bx :
    leads (runArm 0xE12FFF10#32 (at_ 0x1F#32 [(0#4, 0x8000101#32)] []))
      (fun t => t.cpsr.t == true && t.pc == 0x08000100#32) = true := by decide

/-- 2.7: BX r0. -/
theorem test_bx_second :
    leads (runArm 0xE12FFF10#32 (at_ 0x1F#32 [(0#4, 0x3000000#32)] []))
      (fun t => t.cpsr.t == false && t.pc == 0x03000000#32) = true := by decide

/-- 2.8: MRS r0, CPSR. -/
theorem test_mrs :
    leads (runArm 0xE10F0000#32 (at_ 0x600000D3#32 [] []))
      (fun t => t.x 0#4 == 0x600000D3#32 && t.pc == 0x08000004#32) = true := by decide

/-- 2.8: MSR CPSR_f, r1. -/
theorem test_msrReg :
    leads (runArm 0xE128F001#32 (at_ 0xD3#32 [(1#4, 0xF00000FF#32)] []))
      (fun t => cpsrWord t.cpsr == 0xF00000D3#32 && t.pc == 0x08000004#32) = true := by decide

/-- 2.8: MSR CPSR_fsxc, r1. -/
theorem test_msrReg_second :
    leads (runArm 0xE12FF001#32 (at_ 0xD3#32 [(1#4, 0x5AAAAA1F#32)] []))
      (fun t => cpsrWord t.cpsr == 0x5000001F#32 && t.pc == 0x08000004#32) = true := by decide

/-- 2.8: MSR CPSR_f, #0xF0000000. -/
theorem test_msrImm :
    leads (runArm 0xE328F20F#32 (at_ 0xD3#32 [] []))
      (fun t => cpsrWord t.cpsr == 0xF00000D3#32 && t.pc == 0x08000004#32) = true := by decide

/-- 2.9: SWI 0x123456. -/
theorem test_swi :
    leads (runArm 0xEF123456#32 (at_ 0x6000001F#32 [] []))
      (fun t => cpsrWord t.cpsr == 0x60000093#32 && t.xIn .svc 14#4 == 0x8000004#32 && saved t .svc == some 0x6000001F#32 && t.pc == 0x00000008#32) = true := by decide

/-- 2.9: SWI 5. -/
theorem test_tSwi :
    leads (runThumb 0xDF05#16 (at_ 0x3F#32 [] []))
      (fun t => cpsrWord t.cpsr == 0x93#32 && t.xIn .svc 14#4 == 0x8000002#32 && saved t .svc == some 0x3F#32 && t.pc == 0x00000008#32) = true := by decide

/-- 2.9: unrecognized (format A13 space). -/
theorem test_undefArch :
    leads (runArm 0xE7F000F0#32 (at_ 0x10#32 [] []))
      (fun t => cpsrWord t.cpsr == 0x9B#32 && t.xIn .und 14#4 == 0x8000004#32 && saved t .und == some 0x10#32 && t.pc == 0x00000004#32) = true := by decide

/-- 2.9: unrecognized (T16 cond 1110). -/
theorem test_tUndefCond14 :
    leads (runThumb 0xDE00#16 (at_ 0x30#32 [] []))
      (fun t => cpsrWord t.cpsr == 0x9B#32 && t.xIn .und 14#4 == 0x8000002#32 && saved t .und == some 0x30#32 && t.pc == 0x00000004#32) = true := by decide

/-- 2.10: LSL r0, r1, #0. -/
theorem test_tLslImm :
    leads (runThumb 0x0008#16 (at_ 0x2000003F#32 [(1#4, 0x80000001#32)] []))
      (fun t => t.x 0#4 == 0x80000001#32 && flags t == 10#32 && t.pc == 0x08000002#32) = true := by decide

/-- 2.10: LSL r0, r1, #1. -/
theorem test_tLslImm_second :
    leads (runThumb 0x0048#16 (at_ 0x3F#32 [(1#4, 0x80000001#32)] []))
      (fun t => t.x 0#4 == 0x2#32 && flags t == 2#32 && t.pc == 0x08000002#32) = true := by decide

/-- 2.10: LSR r0, r1, #32 (field 0). -/
theorem test_tLsrImm :
    leads (runThumb 0x0808#16 (at_ 0x3F#32 [(1#4, 0x80000000#32)] []))
      (fun t => t.x 0#4 == 0x0#32 && flags t == 6#32 && t.pc == 0x08000002#32) = true := by decide

/-- 2.10: ASR r0, r1, #32 (field 0). -/
theorem test_tAsrImm :
    leads (runThumb 0x1008#16 (at_ 0x3F#32 [(1#4, 0x80000000#32)] []))
      (fun t => t.x 0#4 == 0xFFFFFFFF#32 && flags t == 10#32 && t.pc == 0x08000002#32) = true := by decide

/-- 2.10: ADD r0, r1, r2. -/
theorem test_tAddReg :
    leads (runThumb 0x1888#16 (at_ 0x3F#32 [(1#4, 0x7FFFFFFF#32), (2#4, 0x1#32)] []))
      (fun t => t.x 0#4 == 0x80000000#32 && flags t == 9#32 && t.pc == 0x08000002#32) = true := by decide

/-- 2.10: SUB r0, r1, r2. -/
theorem test_tSubReg :
    leads (runThumb 0x1A88#16 (at_ 0x3F#32 [(1#4, 0x5#32), (2#4, 0x5#32)] []))
      (fun t => t.x 0#4 == 0x0#32 && flags t == 6#32 && t.pc == 0x08000002#32) = true := by decide

/-- 2.10: ADD r0, r1, #7. -/
theorem test_tAddImm3 :
    leads (runThumb 0x1DC8#16 (at_ 0x3F#32 [(1#4, 0xFFFFFFFF#32)] []))
      (fun t => t.x 0#4 == 0x6#32 && flags t == 2#32 && t.pc == 0x08000002#32) = true := by decide

/-- 2.10: SUB r0, r1, #1. -/
theorem test_tSubImm3 :
    leads (runThumb 0x1E48#16 (at_ 0x3F#32 [(1#4, 0x0#32)] []))
      (fun t => t.x 0#4 == 0xFFFFFFFF#32 && flags t == 8#32 && t.pc == 0x08000002#32) = true := by decide

/-- 2.10: MOV r0, #0. -/
theorem test_tMovImm8 :
    leads (runThumb 0x2000#16 (at_ 0x3000003F#32 [(0#4, 0x5#32)] []))
      (fun t => t.x 0#4 == 0x0#32 && flags t == 7#32 && t.pc == 0x08000002#32) = true := by decide

/-- 2.10: CMP r0, #255. -/
theorem test_tCmpImm8 :
    leads (runThumb 0x28FF#16 (at_ 0x3F#32 [(0#4, 0xFF#32)] []))
      (fun t => flags t == 6#32 && t.pc == 0x08000002#32) = true := by decide

/-- 2.10: ADD r0, #255. -/
theorem test_tAddImm8 :
    leads (runThumb 0x30FF#16 (at_ 0x3F#32 [(0#4, 0x1#32)] []))
      (fun t => t.x 0#4 == 0x100#32 && flags t == 0#32 && t.pc == 0x08000002#32) = true := by decide

/-- 2.10: SUB r0, #1. -/
theorem test_tSubImm8 :
    leads (runThumb 0x3801#16 (at_ 0x3F#32 [(0#4, 0x80000000#32)] []))
      (fun t => t.x 0#4 == 0x7FFFFFFF#32 && flags t == 3#32 && t.pc == 0x08000002#32) = true := by decide

/-- 2.10: AND r0, r1. -/
theorem test_tAnd :
    leads (runThumb 0x4008#16 (at_ 0x2000003F#32 [(0#4, 0xF0#32), (1#4, 0xF#32)] []))
      (fun t => t.x 0#4 == 0x0#32 && flags t == 6#32 && t.pc == 0x08000002#32) = true := by decide

/-- 2.10: EOR r0, r1. -/
theorem test_tEor :
    leads (runThumb 0x4048#16 (at_ 0x3F#32 [(0#4, 0xFF#32), (1#4, 0xF#32)] []))
      (fun t => t.x 0#4 == 0xF0#32 && flags t == 0#32 && t.pc == 0x08000002#32) = true := by decide

/-- 2.10: LSL r0, r1. -/
theorem test_tLsl :
    leads (runThumb 0x4088#16 (at_ 0x3F#32 [(0#4, 0x1#32), (1#4, 0x20#32)] []))
      (fun t => t.x 0#4 == 0x0#32 && flags t == 6#32 && t.pc == 0x08000002#32) = true := by decide

/-- 2.10: LSR r0, r1. -/
theorem test_tLsr :
    leads (runThumb 0x40C8#16 (at_ 0x2000003F#32 [(0#4, 0x80000000#32), (1#4, 0x0#32)] []))
      (fun t => t.x 0#4 == 0x80000000#32 && flags t == 10#32 && t.pc == 0x08000002#32) = true := by decide

/-- 2.10: ASR r0, r1. -/
theorem test_tAsr :
    leads (runThumb 0x4108#16 (at_ 0x3F#32 [(0#4, 0x80000000#32), (1#4, 0xFF#32)] []))
      (fun t => t.x 0#4 == 0xFFFFFFFF#32 && flags t == 10#32 && t.pc == 0x08000002#32) = true := by decide

/-- 2.10: ADC r0, r1. -/
theorem test_tAdc :
    leads (runThumb 0x4148#16 (at_ 0x2000003F#32 [(0#4, 0xFFFFFFFF#32), (1#4, 0x0#32)] []))
      (fun t => t.x 0#4 == 0x0#32 && flags t == 6#32 && t.pc == 0x08000002#32) = true := by decide

/-- 2.10: SBC r0, r1. -/
theorem test_tSbc :
    leads (runThumb 0x4188#16 (at_ 0x3F#32 [(0#4, 0x5#32), (1#4, 0x5#32)] []))
      (fun t => t.x 0#4 == 0xFFFFFFFF#32 && flags t == 8#32 && t.pc == 0x08000002#32) = true := by decide

/-- 2.10: ROR r0, r1. -/
theorem test_tRor :
    leads (runThumb 0x41C8#16 (at_ 0x3F#32 [(0#4, 0xF#32), (1#4, 0x4#32)] []))
      (fun t => t.x 0#4 == 0xF0000000#32 && flags t == 10#32 && t.pc == 0x08000002#32) = true := by decide

/-- 2.10: TST r0, r1. -/
theorem test_tTst :
    leads (runThumb 0x4208#16 (at_ 0x3F#32 [(0#4, 0x1#32), (1#4, 0x2#32)] []))
      (fun t => flags t == 4#32 && t.pc == 0x08000002#32) = true := by decide

/-- 2.10: NEG r0, r1. -/
theorem test_tNeg :
    leads (runThumb 0x4248#16 (at_ 0x3F#32 [(1#4, 0x1#32)] []))
      (fun t => t.x 0#4 == 0xFFFFFFFF#32 && flags t == 8#32 && t.pc == 0x08000002#32) = true := by decide

/-- 2.10: NEG r0, r1. -/
theorem test_tNeg_second :
    leads (runThumb 0x4248#16 (at_ 0x3F#32 [(1#4, 0x80000000#32)] []))
      (fun t => t.x 0#4 == 0x80000000#32 && flags t == 9#32 && t.pc == 0x08000002#32) = true := by decide

/-- 2.10: CMP r0, r1. -/
theorem test_tCmp :
    leads (runThumb 0x4288#16 (at_ 0x3F#32 [(0#4, 0x1#32), (1#4, 0x2#32)] []))
      (fun t => flags t == 8#32 && t.pc == 0x08000002#32) = true := by decide

/-- 2.10: CMN r0, r1. -/
theorem test_tCmn :
    leads (runThumb 0x42C8#16 (at_ 0x3F#32 [(0#4, 0x1#32), (1#4, 0xFFFFFFFF#32)] []))
      (fun t => flags t == 6#32 && t.pc == 0x08000002#32) = true := by decide

/-- 2.10: ORR r0, r1. -/
theorem test_tOrr :
    leads (runThumb 0x4308#16 (at_ 0x3F#32 [(0#4, 0x80000000#32), (1#4, 0x1#32)] []))
      (fun t => t.x 0#4 == 0x80000001#32 && flags t == 8#32 && t.pc == 0x08000002#32) = true := by decide

/-- 2.10: BIC r0, r1. -/
theorem test_tBic :
    leads (runThumb 0x4388#16 (at_ 0x3F#32 [(0#4, 0xFF#32), (1#4, 0xF#32)] []))
      (fun t => t.x 0#4 == 0xF0#32 && flags t == 0#32 && t.pc == 0x08000002#32) = true := by decide

/-- 2.10: MVN r0, r1. -/
theorem test_tMvn :
    leads (runThumb 0x43C8#16 (at_ 0x3F#32 [(1#4, 0xFFFFFFFF#32)] []))
      (fun t => t.x 0#4 == 0x0#32 && flags t == 4#32 && t.pc == 0x08000002#32) = true := by decide

/-- 2.10: ADD r8, r1. -/
theorem test_tAddHi :
    leads (runThumb 0x4488#16 (at_ 0x3F#32 [(8#4, 0xFFFFFFFF#32), (1#4, 0x1#32)] []))
      (fun t => t.x 8#4 == 0x0#32 && t.pc == 0x08000002#32) = true := by decide

/-- 2.10: CMP r8, r9. -/
theorem test_tCmpHi :
    leads (runThumb 0x45C8#16 (at_ 0x3F#32 [(8#4, 0x3#32), (9#4, 0x3#32)] []))
      (fun t => flags t == 6#32 && t.pc == 0x08000002#32) = true := by decide

/-- 2.10: MOV r8, r0. -/
theorem test_tMovHi :
    leads (runThumb 0x4680#16 (at_ 0xF000003F#32 [(0#4, 0x0#32)] []))
      (fun t => t.x 8#4 == 0x0#32 && flags t == 15#32 && t.pc == 0x08000002#32) = true := by decide

/-- 2.10: ADD r0, pc, #4 at A = 0x08000002. -/
theorem test_tAddPc :
    leads (runThumb 0xA001#16 (withPc 0x08000002#32 (at_ 0x3F#32 [] [])))
      (fun t => t.x 0#4 == 0x8000008#32 && t.pc == 0x08000004#32) = true := by decide

/-- 2.10: ADD r0, sp, #8. -/
theorem test_tAddSp :
    leads (runThumb 0xA802#16 (at_ 0x3F#32 [(13#4, 0x3000100#32)] []))
      (fun t => t.x 0#4 == 0x3000108#32 && t.pc == 0x08000002#32) = true := by decide

/-- 2.10: ADD sp, #-16. -/
theorem test_tAddSpNeg :
    leads (runThumb 0xB084#16 (at_ 0x3F#32 [(13#4, 0x3000100#32)] []))
      (fun t => t.x 13#4 == 0x30000F0#32 && t.pc == 0x08000002#32) = true := by decide

/-- 2.10: ADD sp, #508. -/
theorem test_tAddSpPos :
    leads (runThumb 0xB07F#16 (at_ 0x3F#32 [(13#4, 0x3000000#32)] []))
      (fun t => t.x 13#4 == 0x30001FC#32 && t.pc == 0x08000002#32) = true := by decide

/-- 2.10: BX r1. -/
theorem test_tBx :
    leads (runThumb 0x4708#16 (at_ 0x3F#32 [(1#4, 0x8000100#32)] []))
      (fun t => t.cpsr.t == false && t.pc == 0x08000100#32) = true := by decide

/-- 2.10: BX pc at A = 0x08000000. -/
theorem test_tBx_second :
    leads (runThumb 0x4778#16 (at_ 0x3F#32 [] []))
      (fun t => t.cpsr.t == false && t.pc == 0x08000004#32) = true := by decide

/-- 2.11: LDR r0, [pc, #4] at A = 0x08000002. -/
theorem test_tLdrPc :
    leads (runThumb 0x4801#16 (withPc 0x08000002#32 (at_ 0x3F#32 [] [(0x3000000#32, 0xAABBCCDD#32), (0x3000004#32, 0x11223344#32), (0x3000008#32, 0x55667788#32), (0x8000008#32, 0x12345678#32)])))
      (fun t => t.x 0#4 == 0x12345678#32 && t.pc == 0x08000004#32) = true := by decide

/-- 2.11: LDR r0, [r1, r2]. -/
theorem test_tLdrReg :
    leads (runThumb 0x5888#16 (at_ 0x3F#32 [(1#4, 0x3000000#32), (2#4, 0x4#32)] [(0x3000000#32, 0xAABBCCDD#32), (0x3000004#32, 0x11223344#32), (0x3000008#32, 0x55667788#32)]))
      (fun t => t.x 0#4 == 0x11223344#32 && t.pc == 0x08000002#32) = true := by decide

/-- 2.11: STR r0, [r1, r2]. -/
theorem test_tStrReg :
    leads (runThumb 0x5088#16 (at_ 0x3F#32 [(0#4, 0xDEADBEEF#32), (1#4, 0x3000000#32), (2#4, 0x8#32)] [(0x3000000#32, 0xAABBCCDD#32), (0x3000004#32, 0x11223344#32), (0x3000008#32, 0x55667788#32)]))
      (fun t => word t 0x3000008#32 == 0xDEADBEEF#32 && t.pc == 0x08000002#32) = true := by decide

/-- 2.11: LDRB r0, [r1, r2]. -/
theorem test_tLdrbReg :
    leads (runThumb 0x5C88#16 (at_ 0x3F#32 [(1#4, 0x3000000#32), (2#4, 0x2#32)] [(0x3000000#32, 0xAABBCCDD#32), (0x3000004#32, 0x11223344#32), (0x3000008#32, 0x55667788#32)]))
      (fun t => t.x 0#4 == 0xBB#32 && t.pc == 0x08000002#32) = true := by decide

/-- 2.11: STRB r0, [r1, r2]. -/
theorem test_tStrbReg :
    leads (runThumb 0x5488#16 (at_ 0x3F#32 [(0#4, 0x1EE#32), (1#4, 0x3000000#32), (2#4, 0x3#32)] [(0x3000000#32, 0xAABBCCDD#32), (0x3000004#32, 0x11223344#32), (0x3000008#32, 0x55667788#32)]))
      (fun t => word t 0x3000000#32 == 0xEEBBCCDD#32 && t.pc == 0x08000002#32) = true := by decide

/-- 2.11: LDR r0, [r1, #4]. -/
theorem test_tLdrImm :
    leads (runThumb 0x6848#16 (at_ 0x3F#32 [(1#4, 0x3000000#32)] [(0x3000000#32, 0xAABBCCDD#32), (0x3000004#32, 0x11223344#32), (0x3000008#32, 0x55667788#32)]))
      (fun t => t.x 0#4 == 0x11223344#32 && t.pc == 0x08000002#32) = true := by decide

/-- 2.11: STR r0, [r1, #4]. -/
theorem test_tStrImm :
    leads (runThumb 0x6048#16 (at_ 0x3F#32 [(0#4, 0xDEADBEEF#32), (1#4, 0x3000000#32)] [(0x3000000#32, 0xAABBCCDD#32), (0x3000004#32, 0x11223344#32), (0x3000008#32, 0x55667788#32)]))
      (fun t => word t 0x3000004#32 == 0xDEADBEEF#32 && t.pc == 0x08000002#32) = true := by decide

/-- 2.11: LDRB r0, [r1, #31]. -/
theorem test_tLdrbImm :
    leads (runThumb 0x7FC8#16 (at_ 0x3F#32 [(1#4, 0x2FFFFE4#32)] [(0x3000000#32, 0xAABBCCDD#32), (0x3000004#32, 0x11223344#32), (0x3000008#32, 0x55667788#32)]))
      (fun t => t.x 0#4 == 0xAA#32 && t.pc == 0x08000002#32) = true := by decide

/-- 2.11: STRB r0, [r1, #1]. -/
theorem test_tStrbImm :
    leads (runThumb 0x7048#16 (at_ 0x3F#32 [(0#4, 0xEE#32), (1#4, 0x3000000#32)] [(0x3000000#32, 0xAABBCCDD#32), (0x3000004#32, 0x11223344#32), (0x3000008#32, 0x55667788#32)]))
      (fun t => word t 0x3000000#32 == 0xAABBEEDD#32 && t.pc == 0x08000002#32) = true := by decide

/-- 2.11: LDR r0, [sp, #8]. -/
theorem test_tLdrSp :
    leads (runThumb 0x9802#16 (at_ 0x3F#32 [(13#4, 0x3000000#32)] [(0x3000000#32, 0xAABBCCDD#32), (0x3000004#32, 0x11223344#32), (0x3000008#32, 0x55667788#32)]))
      (fun t => t.x 0#4 == 0x55667788#32 && t.pc == 0x08000002#32) = true := by decide

/-- 2.11: STR r0, [sp, #4]. -/
theorem test_tStrSp :
    leads (runThumb 0x9001#16 (at_ 0x3F#32 [(0#4, 0xDEADBEEF#32), (13#4, 0x3000000#32)] [(0x3000000#32, 0xAABBCCDD#32), (0x3000004#32, 0x11223344#32), (0x3000008#32, 0x55667788#32)]))
      (fun t => word t 0x3000004#32 == 0xDEADBEEF#32 && t.pc == 0x08000002#32) = true := by decide

/-- 2.11: PUSH (r0, r1, lr). -/
theorem test_tPush :
    leads (runThumb 0xB503#16 (at_ 0x3F#32 [(0#4, 0xA0#32), (1#4, 0xA1#32), (14#4, 0x8000099#32), (13#4, 0x3000100#32)] [(0x3000000#32, 0xAABBCCDD#32), (0x3000004#32, 0x11223344#32), (0x3000008#32, 0x55667788#32)]))
      (fun t => word t 0x30000F4#32 == 0xA0#32 && word t 0x30000F8#32 == 0xA1#32 && word t 0x30000FC#32 == 0x8000099#32 && t.x 13#4 == 0x30000F4#32 && t.pc == 0x08000002#32) = true := by decide

/-- 2.11: POP (r0, pc). -/
theorem test_tPop :
    leads (runThumb 0xBD01#16 (at_ 0x3F#32 [(13#4, 0x3000004#32)] [(0x3000000#32, 0xAABBCCDD#32), (0x3000004#32, 0x11223344#32), (0x3000008#32, 0x55667788#32), (0x3000008#32, 0x8000101#32)]))
      (fun t => t.x 0#4 == 0x11223344#32 && t.cpsr.t == true && t.x 13#4 == 0x300000C#32 && t.pc == 0x08000100#32) = true := by decide

/-- 2.11: STMIA r1!, (r0, r2). -/
theorem test_tStmia :
    leads (runThumb 0xC105#16 (at_ 0x3F#32 [(0#4, 0xA0#32), (2#4, 0xA2#32), (1#4, 0x3000100#32)] [(0x3000000#32, 0xAABBCCDD#32), (0x3000004#32, 0x11223344#32), (0x3000008#32, 0x55667788#32)]))
      (fun t => word t 0x3000100#32 == 0xA0#32 && word t 0x3000104#32 == 0xA2#32 && t.x 1#4 == 0x3000108#32 && t.pc == 0x08000002#32) = true := by decide

/-- 2.11: LDMIA r1!, (r0, r2). -/
theorem test_tLdmia :
    leads (runThumb 0xC905#16 (at_ 0x3F#32 [(1#4, 0x3000000#32)] [(0x3000000#32, 0xAABBCCDD#32), (0x3000004#32, 0x11223344#32), (0x3000008#32, 0x55667788#32)]))
      (fun t => t.x 0#4 == 0xAABBCCDD#32 && t.x 2#4 == 0x11223344#32 && t.x 1#4 == 0x3000008#32 && t.pc == 0x08000002#32) = true := by decide

/-- 2.11: LDMIA r1!, (r0, r1). -/
theorem test_tLdmia_second :
    leads (runThumb 0xC903#16 (at_ 0x3F#32 [(1#4, 0x3000000#32)] [(0x3000000#32, 0xAABBCCDD#32), (0x3000004#32, 0x11223344#32), (0x3000008#32, 0x55667788#32)]))
      (fun t => t.x 0#4 == 0xAABBCCDD#32 && t.x 1#4 == 0x11223344#32 && t.pc == 0x08000002#32) = true := by decide

/-- 2.11: B . (offset11 = 0x7FE). -/
theorem test_tB :
    leads (runThumb 0xE7FE#16 (at_ 0x3F#32 [] []))
      (fun t => t.pc == 0x08000000#32) = true := by decide

/-- 2.11: B with offset11 = 0x400. -/
theorem test_tB_second :
    leads (runThumb 0xE400#16 (at_ 0x3F#32 [] []))
      (fun t => t.pc == 0x07FFF804#32) = true := by decide

/-- 2.11: BEQ with soffset8 = 0x7F. -/
theorem test_tBeq :
    leads (runThumb 0xD07F#16 (at_ 0x4000003F#32 [] []))
      (fun t => t.pc == 0x08000102#32) = true := by decide

/-- 2.11: BEQ with soffset8 = 0x7F. -/
theorem test_tBeq_second :
    leads (runThumb 0xD07F#16 (at_ 0x3F#32 [] []))
      (fun t => t.pc == 0x08000002#32) = true := by decide

/-- 2.11: BLT with soffset8 = 0x80. -/
theorem test_tBlt :
    leads (runThumb 0xDB80#16 (at_ 0x8000003F#32 [] []))
      (fun t => t.pc == 0x07FFFF04#32) = true := by decide

/-- 2.11: BL first half, offset11 = 0x7FF. -/
theorem test_tBlHi :
    leads (runThumb 0xF7FF#16 (at_ 0x3F#32 [] []))
      (fun t => t.x 14#4 == 0x7FFF004#32 && t.pc == 0x08000002#32) = true := by decide

/-- 2.11: BL second half, offset11 = 0x7FF. -/
theorem test_tBlLo :
    leads (runThumb 0xFFFF#16 (at_ 0x3F#32 [(14#4, 0x8000003#32)] []))
      (fun t => t.x 14#4 == 0x8000003#32 && t.pc == 0x08001000#32) = true := by decide

/-- 2.12: MUL r0, r1, r2. -/
theorem test_mul :
    leads (runArm 0xE0000291#32 (at_ 0x1F#32 [(1#4, 0x7#32), (2#4, 0x6#32)] []))
      (fun t => t.x 0#4 == 0x2A#32 && t.pc == 0x08000004#32) = true := by decide

/-- 2.12: MULS r0, r1, r2. -/
theorem test_mul_second :
    leads (runArm 0xE0100291#32 (at_ 0x1F#32 [(1#4, 0xFFFFFFFF#32), (2#4, 0x2#32)] []))
      (fun t => t.x 0#4 == 0xFFFFFFFE#32 && (flags t).getLsbD 3 == true && (flags t).getLsbD 2 == false && t.pc == 0x08000004#32) = true := by decide

/-- 2.12: MLA r0, r1, r2, r3. -/
theorem test_mla :
    leads (runArm 0xE0203291#32 (at_ 0x1F#32 [(1#4, 0x7#32), (2#4, 0x6#32), (3#4, 0x64#32)] []))
      (fun t => t.x 0#4 == 0x8E#32 && t.pc == 0x08000004#32) = true := by decide

/-- 2.12: UMULL r0, r1, r2, r3. -/
theorem test_umull :
    leads (runArm 0xE0810392#32 (at_ 0x1F#32 [(2#4, 0xFFFFFFFF#32), (3#4, 0xFFFFFFFF#32)] []))
      (fun t => t.x 0#4 == 0x1#32 && t.x 1#4 == 0xFFFFFFFE#32 && t.pc == 0x08000004#32) = true := by decide

/-- 2.12: UMLAL r0, r1, r2, r3. -/
theorem test_umlal :
    leads (runArm 0xE0A10392#32 (at_ 0x1F#32 [(1#4, 0x1#32), (0#4, 0x1#32), (2#4, 0xFFFFFFFF#32), (3#4, 0x2#32)] []))
      (fun t => t.x 0#4 == 0xFFFFFFFF#32 && t.x 1#4 == 0x2#32 && t.pc == 0x08000004#32) = true := by decide

/-- 2.12: SMULL r0, r1, r2, r3. -/
theorem test_smull :
    leads (runArm 0xE0C10392#32 (at_ 0x1F#32 [(2#4, 0xFFFFFFFF#32), (3#4, 0x2#32)] []))
      (fun t => t.x 0#4 == 0xFFFFFFFE#32 && t.x 1#4 == 0xFFFFFFFF#32 && t.pc == 0x08000004#32) = true := by decide

/-- 2.12: SMLAL r0, r1, r2, r3. -/
theorem test_smlal :
    leads (runArm 0xE0E10392#32 (at_ 0x1F#32 [(1#4, 0x0#32), (0#4, 0x2#32), (2#4, 0xFFFFFFFF#32), (3#4, 0x2#32)] []))
      (fun t => t.x 0#4 == 0x0#32 && t.x 1#4 == 0x0#32 && t.pc == 0x08000004#32) = true := by decide

/-- 2.12: SWP r0, r1, [r2]. -/
theorem test_swp :
    leads (runArm 0xE1020091#32 (at_ 0x1F#32 [(1#4, 0xDEADBEEF#32), (2#4, 0x3000000#32)] [(0x3000000#32, 0xAABBCCDD#32), (0x3000004#32, 0x11228344#32), (0x3000008#32, 0x55667788#32)]))
      (fun t => t.x 0#4 == 0xAABBCCDD#32 && word t 0x3000000#32 == 0xDEADBEEF#32 && t.pc == 0x08000004#32) = true := by decide

/-- 2.12: SWP r0, r1, [r2]. -/
theorem test_swp_second :
    leads (runArm 0xE1020091#32 (at_ 0x1F#32 [(1#4, 0xDEADBEEF#32), (2#4, 0x3000001#32)] [(0x3000000#32, 0xAABBCCDD#32), (0x3000004#32, 0x11228344#32), (0x3000008#32, 0x55667788#32)]))
      (fun t => t.x 0#4 == 0xDDAABBCC#32 && word t 0x3000000#32 == 0xDEADBEEF#32 && t.pc == 0x08000004#32) = true := by decide

/-- 2.12: SWPB r0, r1, [r2]. -/
theorem test_swpb :
    leads (runArm 0xE1420091#32 (at_ 0x1F#32 [(1#4, 0x1EE#32), (2#4, 0x3000001#32)] [(0x3000000#32, 0xAABBCCDD#32), (0x3000004#32, 0x11228344#32), (0x3000008#32, 0x55667788#32)]))
      (fun t => t.x 0#4 == 0xCC#32 && word t 0x3000000#32 == 0xAABBEEDD#32 && t.pc == 0x08000004#32) = true := by decide

/-- 2.12: LDRH r0, [r1, #2]. -/
theorem test_ldrhImm :
    leads (runArm 0xE1D100B2#32 (at_ 0x1F#32 [(1#4, 0x3000000#32)] [(0x3000000#32, 0xAABBCCDD#32), (0x3000004#32, 0x11228344#32), (0x3000008#32, 0x55667788#32)]))
      (fun t => t.x 0#4 == 0xAABB#32 && t.pc == 0x08000004#32) = true := by decide

/-- 2.12: LDRH r0, [r1, #1] (odd address). -/
theorem test_ldrhImm_second :
    leads (runArm 0xE1D100B1#32 (at_ 0x1F#32 [(1#4, 0x3000000#32)] [(0x3000000#32, 0xAABBCCDD#32), (0x3000004#32, 0x11228344#32), (0x3000008#32, 0x55667788#32)]))
      (fun t => t.x 0#4 == 0xDD0000CC#32 && t.pc == 0x08000004#32) = true := by decide

/-- 2.12: LDRSH r0, [r1, #4]. -/
theorem test_ldrshImm :
    leads (runArm 0xE1D100F4#32 (at_ 0x1F#32 [(1#4, 0x3000000#32)] [(0x3000000#32, 0xAABBCCDD#32), (0x3000004#32, 0x11228344#32), (0x3000008#32, 0x55667788#32)]))
      (fun t => t.x 0#4 == 0xFFFF8344#32 && t.pc == 0x08000004#32) = true := by decide

/-- 2.12: LDRSH r0, [r1, #5] (odd address). -/
theorem test_ldrshImm_second :
    leads (runArm 0xE1D100F5#32 (at_ 0x1F#32 [(1#4, 0x3000000#32)] [(0x3000000#32, 0xAABBCCDD#32), (0x3000004#32, 0x11228344#32), (0x3000008#32, 0x55667788#32)]))
      (fun t => t.x 0#4 == 0xFFFFFF83#32 && t.pc == 0x08000004#32) = true := by decide

/-- 2.12: LDRSB r0, [r1, #3]. -/
theorem test_ldrsbImm :
    leads (runArm 0xE1D100D3#32 (at_ 0x1F#32 [(1#4, 0x3000000#32)] [(0x3000000#32, 0xAABBCCDD#32), (0x3000004#32, 0x11228344#32), (0x3000008#32, 0x55667788#32)]))
      (fun t => t.x 0#4 == 0xFFFFFFAA#32 && t.pc == 0x08000004#32) = true := by decide

/-- 2.12: STRH r0, [r1, #2]!. -/
theorem test_strhImm :
    leads (runArm 0xE1E100B2#32 (at_ 0x1F#32 [(0#4, 0x1BEEF#32), (1#4, 0x3000000#32)] [(0x3000000#32, 0xAABBCCDD#32), (0x3000004#32, 0x11228344#32), (0x3000008#32, 0x55667788#32)]))
      (fun t => word t 0x3000000#32 == 0xBEEFCCDD#32 && t.x 1#4 == 0x3000002#32 && t.pc == 0x08000004#32) = true := by decide

/-- 2.12: STRH r0, [r1], -r2. -/
theorem test_strhReg :
    leads (runArm 0xE00100B2#32 (at_ 0x1F#32 [(0#4, 0xBEEF#32), (1#4, 0x3000004#32), (2#4, 0x4#32)] [(0x3000000#32, 0xAABBCCDD#32), (0x3000004#32, 0x11228344#32), (0x3000008#32, 0x55667788#32)]))
      (fun t => word t 0x3000004#32 == 0x1122BEEF#32 && t.x 1#4 == 0x3000000#32 && t.pc == 0x08000004#32) = true := by decide

/-- 2.12: MUL r0, r1. -/
theorem test_tMul :
    leads (runThumb 0x4348#16 (at_ 0x3F#32 [(0#4, 0x3#32), (1#4, 0x80000000#32)] []))
      (fun t => t.x 0#4 == 0x80000000#32 && (flags t).getLsbD 3 == true && (flags t).getLsbD 2 == false && t.pc == 0x08000002#32) = true := by decide

/-- 2.12: LDRH r0, [r1, r2]. -/
theorem test_tLdrhReg :
    leads (runThumb 0x5A88#16 (at_ 0x3F#32 [(1#4, 0x3000000#32), (2#4, 0x2#32)] [(0x3000000#32, 0xAABBCCDD#32), (0x3000004#32, 0x11228344#32), (0x3000008#32, 0x55667788#32)]))
      (fun t => t.x 0#4 == 0xAABB#32 && t.pc == 0x08000002#32) = true := by decide

/-- 2.12: LDSB r0, [r1, r2]. -/
theorem test_tLdsbReg :
    leads (runThumb 0x5688#16 (at_ 0x3F#32 [(1#4, 0x3000000#32), (2#4, 0x3#32)] [(0x3000000#32, 0xAABBCCDD#32), (0x3000004#32, 0x11228344#32), (0x3000008#32, 0x55667788#32)]))
      (fun t => t.x 0#4 == 0xFFFFFFAA#32 && t.pc == 0x08000002#32) = true := by decide

/-- 2.12: LDSH r0, [r1, r2]. -/
theorem test_tLdshReg :
    leads (runThumb 0x5E88#16 (at_ 0x3F#32 [(1#4, 0x3000000#32), (2#4, 0x4#32)] [(0x3000000#32, 0xAABBCCDD#32), (0x3000004#32, 0x11228344#32), (0x3000008#32, 0x55667788#32)]))
      (fun t => t.x 0#4 == 0xFFFF8344#32 && t.pc == 0x08000002#32) = true := by decide

/-- 2.12: STRH r0, [r1, r2]. -/
theorem test_tStrhReg :
    leads (runThumb 0x5288#16 (at_ 0x3F#32 [(0#4, 0xBEEF#32), (1#4, 0x3000000#32), (2#4, 0x2#32)] [(0x3000000#32, 0xAABBCCDD#32), (0x3000004#32, 0x11228344#32), (0x3000008#32, 0x55667788#32)]))
      (fun t => word t 0x3000000#32 == 0xBEEFCCDD#32 && t.pc == 0x08000002#32) = true := by decide

/-- 2.12: LDRH r0, [r1, #62] (offset5 = 31). -/
theorem test_tLdrhImm :
    leads (runThumb 0x8FC8#16 (at_ 0x3F#32 [(1#4, 0x2FFFFC6#32)] [(0x3000000#32, 0xAABBCCDD#32), (0x3000004#32, 0x11228344#32), (0x3000008#32, 0x55667788#32)]))
      (fun t => t.x 0#4 == 0x8344#32 && t.pc == 0x08000002#32) = true := by decide

/-- 2.12: STRH r0, [r1, #2]. -/
theorem test_tStrhImm :
    leads (runThumb 0x8048#16 (at_ 0x3F#32 [(0#4, 0xBEEF#32), (1#4, 0x3000000#32)] [(0x3000000#32, 0xAABBCCDD#32), (0x3000004#32, 0x11228344#32), (0x3000008#32, 0x55667788#32)]))
      (fun t => word t 0x3000000#32 == 0xBEEFCCDD#32 && t.pc == 0x08000002#32) = true := by decide

/-! ## Rows without a vector of their own, by hand from the rule named -/

/-- STR, register offset (42_single_transfer.md R230, R233): pre-indexed, shifted offset subtracted, written back. -/
theorem test_strReg :
    leads (exec (.strReg .al true false true 1#4 0#4 2#5 .lsl 2#4) (at_ 0x1F#32 [(0#4, 0xDEADBEEF#32), (1#4, 0x03000010#32), (2#4, 3#32)] []))
      (fun t => word t 0x03000004#32 == 0xDEADBEEF#32 && t.x 1#4 == 0x03000004#32) = true := by decide

/-- LDRB, register offset, post-indexed (R230, R235). -/
theorem test_ldrbReg :
    leads (exec (.ldrbReg .al false true false 1#4 0#4 0#5 .lsl 2#4)
        (at_ 0x1F#32 [(1#4, 0x03000002#32), (2#4, 5#32)] [(0x03000000#32, 0xAABBCCDD#32)]))
      (fun t => t.x 0#4 == 0xBB#32 && t.x 1#4 == 0x03000007#32) = true := by decide

/-- STRB, register offset (R236): only the addressed byte changes. -/
theorem test_strbReg :
    leads (exec (.strbReg .al true true false 1#4 0#4 0#5 .lsl 2#4)
        (at_ 0x1F#32 [(0#4, 0x1234#32), (1#4, 0x03000000#32), (2#4, 2#32)] [(0x03000000#32, 0xAABBCCDD#32)]))
      (fun t => word t 0x03000000#32 == 0xAA34CCDD#32) = true := by decide

/-- LDRH, LDRSB, LDRSH with a register offset (49_unlisted_families.md R419 to R421). -/
theorem test_halfword_register_loads :
    let s := at_ 0x1F#32 [(1#4, 0x03000000#32), (2#4, 2#32)] [(0x03000000#32, 0xAABBCCDD#32)]
    leads (exec (.ldrhReg .al true true false 1#4 0#4 2#4) s) (fun t => t.x 0#4 == 0xAABB#32) = true ∧
    leads (exec (.ldrsbReg .al true true false 1#4 0#4 2#4) s) (fun t => t.x 0#4 == 0xFFFFFFBB#32) = true ∧
    leads (exec (.ldrshReg .al true true false 1#4 0#4 2#4) s) (fun t => t.x 0#4 == 0xFFFFAABB#32) = true := by decide

/-- LDRSH at an odd address: a halfword access at the address below, the byte there sign-extended (20_memory.md R83, decision D37). -/
theorem test_ldrshReg_odd :
    leads (exec (.ldrshReg .al true true false 1#4 0#4 2#4)
        (at_ 0x1F#32 [(1#4, 0x03000000#32), (2#4, 3#32)] [(0x03000000#32, 0xAABBCCDD#32)]))
      (fun t => t.x 0#4 == 0xFFFFFFAA#32 && t.busLast == some (0x03000002#32, .half)) = true := by decide

/-- The unrecognized rows (46_swi_undefined.md R296; 2.9). -/
theorem test_undefined_rows :
    (∀ i ∈ [Instr.undefArch .al, .undefCopTransfer .al, .undefCopOp .al, .undefDoubleword .al],
      leads (exec i (at_ 0x10#32 [] [])) (fun t => t.pc == 4#32 && cpsrWord t.cpsr == 0x9B#32 && t.xIn .und 14#4 == 0x08000004#32
        && saved t .und == some 0x10#32) = true) ∧
    (∀ i ∈ [Instr.tUndefBxH1, .tUndefB1, .tUndefB2, .tUndefB6, .tUndefB8, .tUndefBe, .tUndefCond14, .tUndefBlxSuffix],
      leads (exec i (at_ 0x30#32 [] [])) (fun t => t.pc == 4#32 && cpsrWord t.cpsr == 0x9B#32 && t.xIn .und 14#4 == 0x08000002#32
        && saved t .und == some 0x30#32) = true) := by decide

/-- A word with no row traps as well, and is skipped when its condition fails (R131, R296; 2.2). -/
theorem test_word_without_row :
    leads (runArm 0xE1000000#32 (at_ 0x10#32 [] [])) (fun t => t.pc == 4#32 && t.xIn .und 14#4 == 0x08000004#32) = true ∧
    leads (runArm 0x01000000#32 (at_ 0x10#32 [] [])) (fun t => t.pc == 0x08000004#32 && cpsrWord t.cpsr == 0x10#32) = true := by decide

/-- Conditional branches with a displacement of -2 (48_thumb_mem_branch.md R368): taken to A + 2, or on to A + 2: told apart by +4. -/
theorem test_thumb_branches :
    let s := at_ 0x9000003F#32 [] []
    [Instr.tBeq 4#9, .tBne 4#9, .tBcs 4#9, .tBcc 4#9, .tBmi 4#9, .tBpl 4#9, .tBvs 4#9, .tBvc 4#9, .tBhi 4#9, .tBls 4#9, .tBge 4#9,
      .tBlt 4#9, .tBgt 4#9, .tBle 4#9].map (fun i => leads (exec i s) (fun t => t.pc == 0x08000008#32)) =
    [false, true, false, true, true, false, true, false, false, true, true, false, true, false] := by decide

/-! ## Address space, register window, devices, exceptions -/

/-- 2.13: EWRAM, IWRAM and VRAM mirrors; a write to the cartridge is dropped; an access is forced down to its width. -/
theorem test_mirrors :
    let s := memWrite 0x06000000#32 .half 0xBEEF#32 (memWrite 0x03007FFC#32 .word 0x12345678#32
      (memWrite 0x02000000#32 .word 0xAABBCCDD#32 State.reset))
    (memRead 0x02FC0000#32 .word s).1 = 0xAABBCCDD#32 ∧ (memRead 0x03FFFFFC#32 .word s).1 = 0x12345678#32 ∧
    (memRead 0x06018000#32 .half s).1 = 0xBEEF#32 ∧ (memRead 0x06020000#32 .half s).1 = 0#32 ∧
    (memRead 0x02000001#32 .half s).1 = 0xCCDD#32 ∧ (memWrite 0x08000000#32 .word 5#32 s).mem = s.mem := by decide

/-- 2.13: an image of 8 bytes repeats. -/
theorem test_cartridge_image :
    leads (hostCall (.loadCartridge [0x44#8, 0x33#8, 0x22#8, 0x11#8, 0x88#8, 0x77#8, 0x66#8, 0x55#8]) State.reset) (fun s =>
      (memRead 0x0A000004#32 .word s).1 == 0x55667788#32 && (memRead 0x08000008#32 .word s).1 == 0x11223344#32
        && (memRead 0x0C000000#32 .half s).1 == 0x3344#32 && s.pc == 0x08000000#32) = true := by decide

/-- 2.14: acknowledging IF; a word write is two halfword writes, the low one first; a byte write. -/
theorem test_window_if :
    (ioWrite 2 .half 1#32 (withIrq 0#16 9#16 0#16 State.reset)).dev.ifr = 8#16 ∧
    (ioWrite 3 .byte 1#32 (withIrq 0#16 0x109#16 0#16 State.reset)).dev.ifr = 9#16 ∧
    (ioWrite 0 .word 0x00080001#32 (withIrq 0#16 9#16 0#16 State.reset)).dev.ie = 1#16 ∧
    (ioWrite 0 .word 0x00080001#32 (withIrq 0#16 9#16 0#16 State.reset)).dev.ifr = 1#16 ∧
    (ioWrite 8 .byte 0#32 (withIrq 0#16 0#16 0xFFFF#16 State.reset)).dev.ime = 0xFF00#16 := by decide

/-- 2.14: a timer's data and control; a write to an unrouted offset is an output event. -/
theorem test_window_timer :
    let s := ioWrite 0x100 .word 0x00C0FFF0#32 State.reset
    s.dev.timers[0] = ⟨0xFFF0#16, 0xFFF0#16, 0xC0#16, 1#11⟩ ∧ (ioRead 0x100 .word s).1 = 0x00C0FFF0#32 ∧
    (ioWrite 0x0A .half 0x1234#32 State.reset).outputs = [.unroutedWrite 0x0A 0x1234#16 0b11#2] := by decide

/-- 2.15 I1 and I2: interrupt entry from either instruction set. -/
theorem test_irq_entry :
    leads (cpuStep (withIrq 1#16 1#16 1#16 (withPc 0x08000100#32 (at_ 0x6000001F#32 [] [])))) (fun t => t.pc == 0x18#32
      && cpsrWord t.cpsr == 0x60000092#32 && t.xIn .irq 14#4 == 0x08000104#32 && saved t .irq == some 0x6000001F#32
      && t.dev.ifr == 1#16 && t.cycles == 3) = true ∧
    leads (cpuStep (withIrq 8#16 8#16 1#16 (withPc 0x08000102#32 (at_ 0x3F#32 [] [])))) (fun t => t.pc == 0x18#32
      && cpsrWord t.cpsr == 0x92#32 && t.xIn .irq 14#4 == 0x08000106#32 && saved t .irq == some 0x3F#32) = true := by decide

/-- 2.15 I3 to I7: when no entry is taken, and which request wins. -/
theorem test_irq_masks :
    irqTaken (withIrq 1#16 1#16 1#16 (at_ 0x9F#32 [] [])) = false ∧ irqTaken (withIrq 1#16 1#16 0#16 (at_ 0x1F#32 [] [])) = false ∧
    irqTaken (withIrq 2#16 1#16 1#16 (at_ 0x1F#32 [] [])) = false ∧ irqTaken (withIrq 1#16 1#16 0xFFFE#16 (at_ 0x1F#32 [] [])) = false ∧
    irqWinner (withIrq 0x3FFF#16 0x0408#16 1#16 State.reset).dev = some 3 := by decide

/-- 2.15 I8: the return to a displaced compressed-mode instruction. -/
theorem test_irq_return :
    leads (runArm 0xE25EF004#32 (withSaved .irq 0x3F#32 (at_ 0x92#32 [(14#4, 0x08000106#32)] [])))
      (fun t => t.pc == 0x08000102#32 && cpsrWord t.cpsr == 0x3F#32) = true := by decide

/-- 2.15, banking: one bank of r13 per privileged mode, a second r8 in FIQ mode. -/
theorem test_banks :
    let s := (State.reset.setXIn .svc 13#4 1#32).setXIn .irq 13#4 2#32
    let u := (s.setXIn .svc 8#4 0x11#32).setXIn .fiq 8#4 0x22#32
    u.xIn .svc 13#4 = 1#32 ∧ u.xIn .irq 13#4 = 2#32 ∧ u.xIn .sys 13#4 = 0#32 ∧ u.xIn .user 8#4 = 0x11#32 ∧ u.xIn .fiq 8#4 = 0x22#32 := by
  decide

/-- 2.16 T1 and T4: a wrap reloads, pulses and requests; a cascade ripples in one cycle. -/
theorem test_timer_overflow :
    let s := timersAdvance 1 (ioWrite 0x102 .half 0xC0#32 (ioWrite 0x100 .half 0xFFFF#32 State.reset))
    let c := timersAdvance 1 (ioWrite 0x10A .half 0xC4#32 (ioWrite 0x108 .half 0xFFFF#32 (ioWrite 0x106 .half 0xC4#32
      (ioWrite 0x104 .half 0xFFFF#32 (ioWrite 0x102 .half 0xC0#32 (ioWrite 0x100 .half 0xFFFF#32 State.reset))))))
    s.dev.timers[0].counter = 0xFFFF#16 ∧ s.dev.ifr = 8#16 ∧ s.outputs = [.overflow 0] ∧
    c.outputs = [.overflow 0, .overflow 1, .overflow 2] ∧ c.dev.ifr = 0x38#16 := by decide

set_option maxRecDepth 8000 in
/-- 2.16 T6: cascade on timer 0 never ticks. -/
theorem test_timer_zero_cascade :
    (timersAdvance 20 (ioWrite 0x102 .half 0x84#32 State.reset)).dev.timers[0].counter = 0#16 := by decide

set_option maxRecDepth 8000 in
/-- 2.17 D1: an immediate transfer of three words, and a count write dropped while it is active. -/
theorem test_dma_immediate :
    let s0 := { State.reset with mem := storeBytes (storeBytes [] 0x02000000 0x11111111#32 .word) 0x02000008 0x33333333#32 .word }
    let s1 := ioWrite 0xBA .half 0xC400#32 (ioWrite 0xB8 .half 3#32 (ioWrite 0xB4 .word 0x03000000#32 (ioWrite 0xB0 .word 0x02000000#32 s0)))
    let t := dmaAdvance (ioWrite 0xB8 .half 7#32 s1)
    s1.dev.dma[0].active = true ∧
    t.dev.dma[0] = ⟨0x0200000C#32, 0x0300000C#32, 3#16, 0x4400#16, false⟩ ∧ t.dev.ifr = 0x0100#16 ∧ t.cycles = 23 ∧
    word t 0x03000000#32 = 0x11111111#32 ∧ word t 0x03000008#32 = 0x33333333#32 := by decide

/-- 2.17 D6 and D7: only the channel that waits for the signal wakes; clearing enable cancels. -/
theorem test_dma_triggers :
    let s := ioWrite 0xD2 .half 0xA000#32 State.reset
    (signalVblankStart s.cfg s.dev).dma[2].active = false ∧ (signalHblankStart s.cfg s.dev).dma[2].active = true ∧
    (ioWrite 0xBA .half 0#32 (ioWrite 0xBA .half 0x8000#32 State.reset)).dev.dma[0].active = false := by decide

set_option maxRecDepth 8000 in
/-- A step from reset with an instruction placed: fetch, decode, execution (R160, R590); a first word access to the cartridge costs 8
cycles (70_reset_and_hazards.md R631). -/
theorem test_step_from_reset :
    leads (step (State.reset.withFetchWord 32 0xE3A00001)) (fun t => t.x 0#4 == 1#32 && t.pc == 0x08000004#32
      && t.cycles == 8 && t.busLast == some (0x08000000#32, .word)) = true ∧
    leads (step (State.reset.withFetchWord 16 0x2005)) (fun t => t.x 0#4 == 5#32 && t.pc == 0x08000002#32) = true := by decide

set_option maxRecDepth 8000 in
/-- A pending host call is made first (R595). -/
theorem test_host_call :
    leads (step { State.reset with inputs := [.irqRaise 13, .reset] }) (fun t => t.dev.ifr == 0x2000#16 && t.inputs == [.reset]
      && t.pc == 0x08000000#32) = true := by decide

/-! ## Witnesses: the hypotheses of each statement are met together -/

/-- System mode with Z set. -/
def sysZ : State := at_ 0x4000001F#32 [] []
/-- User mode. -/
def usr : State := at_ 0x10#32 [] []
/-- Supervisor mode with an SPSR that names System mode in compressed mode. -/
def svcS : State := withSaved .svc 0x6000003F#32 (at_ 0xD3#32 [] [])
/-- Supervisor mode with an SPSR whose mode field is no mode. -/
def svcBad : State := withSaved .svc 0x60000001#32 (at_ 0xD3#32 [(1#4, 0x00000001#32)] [])
/-- An interrupt due, in compressed mode. -/
def due : State := withIrq 8#16 8#16 1#16 (withPc 0x08000102#32 (at_ 0x3F#32 [] []))
/-- The same state in another configuration. -/
def withCfg (f : Cfg → Cfg) (s : State) : State := { s with cfg := f s.cfg }
/-- The policies that trap nothing and refuse the unlisted families. -/
def quiet (c : Cfg) : Cfg := { c with swiPolicy := .noEffect, unrecognizedPolicy := .noEffect, unlisted := .refuse }
/-- The condition NE holds. -/
def ne : State := at_ 0x1F#32 [(1#4, 0x03000000#32), (13#4, 0x03000100#32)] []

/-- A compressed-mode state with a base register and a stack pointer in the internal store. -/
def thumbS : State := at_ 0x3F#32 [(1#4, 0x03000000#32), (13#4, 0x03000100#32)] []

theorem witness_DecodeOfEncode : (Instr.tLdrPc 7#3 0x3FC#10).wf = true ∧ (Instr.b .nv 0x3FFFFFC#26).wf = true := by decide

/-- A configuration the spec admits that is not the default one. -/
theorem witness_RegionTable :
    Config.default.ok = true ∧ (quiet Config.default).ok = true ∧ (Config.default.setCartLen 4).ok = true ∧
      (regionOf Config.default 0xFFFFFFFC#32).kind = .unused ∧ (regionOf (Config.default.setCartLen 4) 0x0DFFFFFF#32).kind ≠ .unused ∧
      (regionOf Config.default 0x0DFFFFFF#32).holds 0x0DFFFFFF = true := by decide

set_option maxRecDepth 8000 in
theorem witness_StepRunsDecoded :
    let s := (State.reset.withFetchWord 32 0xE5910000)
    s.inputs = [] ∧ noInterrupt s ∧ plain s.cfg s.pc (fetchWidth s.cpsr.t) ∧ s.pcAligned ∧
      decodeBytes s.cpsr.t (fetchedBytes s) = .ok (.ldrImm .al true true false 1#4 0#4 0#12, []) := by
  refine ⟨rfl, .inl ?_, by unfold plain; decide, ?_, ?_⟩
  · decide
  · decide
  · rfl

/-- The same in compressed mode, with IME off instead of I set. -/
theorem witness_StepRunsDecoded_thumb :
    let s := placeCode 16 0xDF05 (withPc 0x03000002#32 (at_ 0x3F#32 [] []))
    s.inputs = [] ∧ noInterrupt s ∧ plain s.cfg s.pc (fetchWidth s.cpsr.t) ∧ s.pcAligned ∧
      decodeBytes s.cpsr.t (fetchedBytes s) = .ok (.tSwi 5#8, []) := by
  refine ⟨rfl, .inr ?_, by unfold plain; decide, ?_, ?_⟩
  · decide
  · decide
  · rfl

theorem witness_InterruptEntry :
    due.inputs = [] ∧ due.cpsr.i = false ∧ due.dev.ime.getLsbD 0 = true ∧ due.dev.ie &&& due.dev.ifr ≠ 0#16 := by decide

/-- The second clause: no interrupt is due after reset, nor where I is set although a request is enabled. -/
theorem witness_InterruptEntry_none :
    State.reset.cpsr.i = true ∧ (withIrq 8#16 8#16 1#16 (at_ 0xBF#32 [] [])).cpsr.i = true ∧
      (withIrq 8#16 8#16 0xFFFE#16 (at_ 0x1F#32 [] [])).dev.ime.getLsbD 0 = false ∧
      (let d := (withIrq 8#16 0xFFF7#16 1#16 (at_ 0x1F#32 [] [])).dev; d.ie &&& d.ifr = 0#16) := by decide

/-- The line is high for a request without a source (bit 15), and low with IME off. -/
theorem test_irqLine :
    irqLine (withIrq 0x8000#16 0x8000#16 1#16 State.reset).dev = true ∧
      irqLine (withIrq 0xFFFF#16 0xFFFF#16 0xFFFE#16 State.reset).dev = false := by decide

/-- The two policies, each admitted. -/
theorem witness_policies :
    (usr.cfg.swiPolicy = .trap ∧ usr.cfg.unrecognizedPolicy = .trap ∧ usr.cfg.unlisted = .armv4t) ∧
      ((withCfg quiet usr).cfg.swiPolicy = .noEffect ∧ (withCfg quiet usr).cfg.unrecognizedPolicy = .noEffect) := by decide

/-- The condition premise of SoftwareInterruptEntry, UndefinedEntry and of every statement over 32-bit mode. -/
theorem witness_condition : condHolds .eq sysZ.cpsr = true ∧ condHolds .ne ne.cpsr = true ∧ condHolds .al usr.cpsr = true := by decide

theorem witness_WordWithoutRowTraps_taken :
    let s := placeCode 32 0xE1000000 (at_ 0x9F#32 [] [])
    noInterrupt s ∧ plain s.cfg s.pc .word ∧ s.cpsr.t = false ∧ s.pcAligned ∧ fetchedBytes s = [0#8, 0#8, 0#8, 0xE1#8] ∧
      decodeArm (0xE1#8 ++ 0#8 ++ 0#8 ++ 0#8) = none ∧ condHolds (Cond.ofBits ((0xE1#8 : Byte).extractLsb' 4 4)) s.cpsr = true := by
  refine ⟨.inl (by decide), by unfold plain; decide, ?_⟩; decide

theorem witness_WordWithoutRowTraps_no_effect :
    let s := withCfg quiet (placeCode 32 0xE1000000 (at_ 0x9F#32 [] []))
    noInterrupt s ∧ plain s.cfg s.pc .word ∧ s.cpsr.t = false ∧ s.pcAligned ∧ fetchedBytes s = [0#8, 0#8, 0#8, 0xE1#8] ∧
      s.cfg.unrecognizedPolicy = .noEffect := by
  refine ⟨.inl (by decide), by unfold plain; decide, ?_⟩; decide

theorem witness_WordWithoutRowTraps_skipped :
    let s := placeCode 32 0x01000000 (at_ 0x9F#32 [] [])
    noInterrupt s ∧ plain s.cfg s.pc .word ∧ s.cpsr.t = false ∧ s.pcAligned ∧ fetchedBytes s = [0#8, 0#8, 0#8, 0x01#8] ∧
      decodeArm (0x01#8 ++ 0#8 ++ 0#8 ++ 0#8) = none ∧ condHolds (Cond.ofBits ((0x01#8 : Byte).extractLsb' 4 4)) s.cpsr = false := by
  refine ⟨.inl (by decide), by unfold plain; decide, ?_⟩; decide

theorem witness_TrapReturn :
    (condHolds .eq sysZ.cpsr = true ∧ sysZ.cpsr.t = false ∧ sysZ.pcAligned) ∧
    ((withPc 0x08000002#32 (at_ 0x30#32 [] [])).cpsr.t = true ∧ (withPc 0x08000002#32 (at_ 0x30#32 [] [])).pcAligned) := by decide

theorem witness_InterruptReturn : due.cpsr.i = false ∧ irqLine due.dev = true ∧ due.pcAligned := by decide

/-- One User-mode instruction for each of the three outcomes. -/
theorem witness_UserModeConfined :
    usr.cpsr.mode = .user ∧ (∃ t, exec (.msrImm .al false 9#4 0#4 0xD3#8) usr = .next t) ∧
      (∃ t, exec (.swi .al 0#24) usr = .next t) ∧ (∃ t, exec (.undefArch .al) usr = .next t) :=
  ⟨by decide, next_of_leads _ (by decide), next_of_leads _ (by decide), next_of_leads _ (by decide)⟩

/-- Numbers at the edges of the banked ranges: 7, 8, 12, 13, 14. -/
theorem witness_BankedView :
    sharesRegister .fiq .user 7#4 ∧ ¬ sharesRegister .fiq .user 8#4 ∧ sharesRegister .irq .user 12#4 ∧
      ¬ sharesRegister .irq .svc 13#4 ∧ sharesRegister .sys .user 14#4 ∧ ¬ ((7#4 : Reg) = 8#4 ∧ sharesRegister .sys .user 7#4) := by
  unfold sharesRegister; decide

theorem witness_MrsResult :
    condHolds .al svcS.cpsr = true ∧ spsrOf svcS.cpsr.mode svcS.spsr = some (psrOfWord 0x6000003F#32) := by decide

/-- The second clause: System mode has no saved status word. -/
theorem witness_MrsResult_absent : condHolds .eq sysZ.cpsr = true ∧ spsrOf sysZ.cpsr.mode sysZ.spsr = none := by decide

theorem witness_MsrCpsrResult :
    (condHolds .al usr.cpsr = true ∧ usr.cpsr.mode = .user) ∧ (0b1000#4 : BitVec 4).getLsbD 0 = false ∧
    ((0b0001#4 : BitVec 4).getLsbD 0 = true ∧ svcS.cpsr.mode ≠ .user ∧
      (Mode.sys, ((MsrOperand.imm 0#4 0x1F#8).value svcS).extractLsb' 0 5) ∈ modeNumbers) := by decide

theorem witness_MsrSpsrResult : condHolds .al svcS.cpsr = true ∧ spsrOf svcS.cpsr.mode svcS.spsr = some (psrOfWord 0x6000003F#32) := by
  decide

theorem witness_SpsrAbsentStops :
    (condHolds .al usr.cpsr = true ∧ usr.cpsr.mode = .user) ∧ (condHolds .eq sysZ.cpsr = true ∧ sysZ.cpsr.mode = .sys) ∧
      (0x8001#16 : BitVec 16).getLsbD 15 = true := by decide

theorem witness_IllegalModeStops :
    condHolds .al svcBad.cpsr = true ∧ svcBad.cpsr.mode ≠ .user ∧ (0b1001#4 : BitVec 4).getLsbD 0 = true ∧
    (∀ m : Mode, (m, ((MsrOperand.reg 1#4).value svcBad).extractLsb' 0 5) ∉ modeNumbers) ∧
    spsrOf svcBad.cpsr.mode svcBad.spsr = some (psrOfWord 0x60000001#32) ∧
    (0x8001#16 : BitVec 16).getLsbD 15 = true ∧ (∀ m : Mode, (m, (psrOfWord 0x60000001#32).m) ∉ modeNumbers) := by
  refine ⟨by decide, by decide, by decide, ?_, by decide, by decide, ?_⟩ <;> intro m <;> cases m <;> decide

theorem witness_ExecStopsNowhereElse :
    let i := Instr.msrReg .al false 8#4 0#4
    admits ne.cfg (.swpb .al 1#4 0#4 2#4) ∧ Instr.status ne.cfg (.swpb .al 1#4 0#4 2#4) ≠ .everything ∧
      (∀ c rd, i ≠ .mrs c true rd) := by
  refine ⟨fun _ => rfl, by decide, fun c rd => by simp⟩

/-- The second clause: both instruction sets, and a condition that holds. -/
theorem witness_ExecStopsNowhereElse_refused :
    ¬ admits (withCfg quiet ne).cfg (.mul .ne false 0#4 1#4 2#4) ∧ ¬ admits (withCfg quiet ne).cfg (.tMul 0#3 1#3) ∧
      (∀ c, armCond (.mul .ne false 0#4 1#4 2#4) = some c → condHolds c (withCfg quiet ne).cpsr = true) ∧
      (∀ c, armCond (.tMul 0#3 1#3) = some c → condHolds c (withCfg quiet ne).cpsr = true) := by
  refine ⟨by unfold admits; decide, by unfold admits; decide, ?_, ?_⟩ <;> intro c h <;> cases h <;> decide

/-- An admitted instruction of an unlisted family, and a listed one where the unlisted are refused. -/
theorem witness_admits :
    admits ne.cfg (.ldrhImm .ne true true false 1#4 0#4 0#8) ∧ admits (withCfg quiet ne).cfg (.ldrImm .ne true true false 1#4 0#4 0#12) ∧
      admits thumbS.cfg (.tMul 0#3 1#3) := by
  unfold admits; decide

theorem witness_DataProcessingResult : condHolds .ne ne.cpsr = true ∧ (14#4 : Reg) ≠ 15#4 := by decide

theorem witness_DataProcessingReturn :
    condHolds .al svcS.cpsr = true ∧ spsrOf svcS.cpsr.mode svcS.spsr = some (psrOfWord 0x6000003F#32) ∧
      (Mode.sys, (psrOfWord 0x6000003F#32).m) ∈ modeNumbers := by decide

theorem witness_ConditionFailed :
    armCond (.swi .ne 0#24) = some .ne ∧ condHolds .ne sysZ.cpsr = false ∧ armCond (.stm .nv true false false true 13#4 7#16) = some .nv ∧
      condHolds .nv ne.cpsr = false := by decide

/-- Amounts at the boundaries of the clauses. -/
theorem witness_shift_amounts :
    (0#5 : BitVec 5) = 0#5 ∧ (31#5 : BitVec 5) ≠ 0#5 ∧ (1#5 : BitVec 5) ≠ 0#5 ∧ (32#8 : BitVec 8) ≠ 0#8 ∧ (255#8 : BitVec 8) ≠ 0#8 := by decide

/-- Addresses of every kind: the ends of a store, the two images, the window, an unused region. -/
theorem witness_MemoryAccess :
    let c := Config.default
    plain c 0x02000000#32 .word ∧ plain c 0x03FFFFFF#32 .byte ∧ plain c 0x00003FFF#32 .half ∧
      (unitRegion c 0x01000000#32 .word).kind = .unused ∧ (unitRegion c 0x0E000000#32 .byte).kind = .unused ∧
      (unitRegion c 0x0DFFFFFC#32 .word).kind.isImage = true ∧ (unitRegion c 0x040000BA#32 .half).kind = .window ∧
      (regionOf c 0x02040000#32 = regionOf c 0x02000000#32 ∧
        ((0x02040000#32 : Word).toNat - (regionOf c 0x02040000#32).base) % (regionOf c 0x02040000#32).size =
          ((0x02000000#32 : Word).toNat - (regionOf c 0x02000000#32).base) % (regionOf c 0x02000000#32).size) := by
  unfold plain; decide

/-- A store, and a run of words in an image. -/
theorem witness_MemoryReadAfterWrite :
    inStore Config.default 0x0601FFFE#32 .half ∧
      (∀ j, j < 3 → plain Config.default (wordAt 0x0DFFFFF4#32 j) .word) := by
  unfold inStore plain; decide

theorem witness_SingleLoad :
    condHolds .ne ne.cpsr = true ∧ (0#4 : Reg) ≠ 15#4 ∧ writesBack false false 1#4 ∧ writesBack true true 1#4 ∧ (1#4 : Reg) ≠ 0#4 := by
  unfold writesBack; decide

theorem witness_SingleStore :
    condHolds .ne ne.cpsr = true ∧ writesBack false true 1#4 ∧
      inStore ne.cfg (transferAt true true (armReg 1#4 ne) ((StoreForm.byteImm 3#12).offset ne)) .byte ∧
      ¬ inWindow ne.cfg (transferAt true true (armReg 1#4 ne) ((StoreForm.byteImm 3#12).offset ne)) .byte := by
  unfold writesBack inStore inWindow; decide

theorem witness_BlockLoad :
    condHolds .ne ne.cpsr = true ∧ (0x8001#16 : BitVec 16).getLsbD 15 = true ∧ (0x7FFF#16 : BitVec 16).getLsbD 15 = false ∧
      (regList 0x8001#16)[1]? = some 15#4 ∧ (regList 0x0005#16)[1]? = some 2#4 ∧
      ((0x0005#16 : BitVec 16).getLsbD (1#4 : Reg).toNat = false ∧ (1#4 : Reg) ≠ 15#4) := by decide

theorem witness_BlockLoadReturn :
    condHolds .al svcS.cpsr = true ∧ (0x8000#16 : BitVec 16).getLsbD 15 = true ∧
      spsrOf svcS.cpsr.mode svcS.spsr = some (psrOfWord 0x6000003F#32) ∧ (Mode.sys, (psrOfWord 0x6000003F#32).m) ∈ modeNumbers ∧
      (regList 0x8001#16)[0]? = some 0#4 ∧ (0x8001#16 : BitVec 16).getLsbD (13#4 : Reg).toNat = false := by decide

theorem witness_BlockStore :
    condHolds .ne ne.cpsr = true ∧ (regList 0xFFFF#16)[15]? = some 15#4 ∧
      inStore ne.cfg (wordAt (blockStart (armReg 13#4 ne) true false 16) 15) .word ∧
      lasts ne.cfg (wordAt (blockStart (armReg 13#4 ne) true false 16)) 16 15 .word ∧
      lasts ne.cfg (wordAt (blockStart (armReg 13#4 ne) true false 2)) 2 0 .word := by
  refine ⟨by decide, by decide, by unfold inStore; decide, fun j h h' _ => by omega, fun j h h' _ => ?_⟩
  obtain rfl : j = 1 := by omega
  unfold apart; decide

theorem witness_SwapResult : condHolds .ne ne.cpsr = true ∧ (0#4 : Reg) ≠ 15#4 ∧ ne.cfg.unlisted = .armv4t ∧ inStore ne.cfg (armReg 1#4 ne) .word := by unfold inStore; decide

theorem witness_multiplies : ne.cfg.unlisted = .armv4t ∧ condHolds .ne ne.cpsr = true ∧ (1#4 : Reg) ≠ 15#4 ∧ (0#4 : Reg) ≠ 15#4 ∧ (0#4 : Reg) ≠ 1#4 := by decide

theorem witness_ThumbBranches : thumbBranch .le 0x1FE#9 = some (.tBle 0x1FE#9) ∧ thumbBranch .eq 0#9 = some (.tBeq 0#9) := by decide

theorem witness_ThumbStoreResult :
    inStore thumbS.cfg ((ThumbStore.byteImm 1#3 31#5).address thumbS) .byte ∧
      ¬ inWindow thumbS.cfg ((ThumbStore.sp 0x3FC#10).address thumbS) .word := by
  unfold inStore inWindow; decide

theorem witness_PushPop :
    (pushList true 0x81#8)[2]? = some 14#4 ∧ (pushList true 0x81#8)[0]? = some 0#4 ∧
      inStore thumbS.cfg (wordAt (thumbS.x 13#4 - BitVec.ofNat 32 (4 * (pushList true 0x81#8).length)) 2) .word ∧
      (lowRegList 0x81#8)[1]? = some 7#4 := by
  unfold inStore; decide

theorem witness_ThumbBlockTransfer :
    (lowRegList 0x06#8)[0]? = some 1#4 ∧ inStore thumbS.cfg (wordAt (low 1#3 thumbS) 0) .word ∧
      (0x05#8 : BitVec 8).getLsbD (1#3 : LowReg).toNat = false := by
  unfold inStore; decide

/-- The premise of the four frames, with a store, a trap, a move to the SPSR and a block load. -/
theorem witness_frames :
    (∃ t, exec (.stm .ne true false false true 13#4 0x8003#16) ne = .next t) ∧ (∃ t, exec (.tSwi 0#8) thumbS = .next t) ∧
      (∃ t, exec (.msrReg .al true 9#4 1#4) svcS = .next t) ∧ (∃ t, exec (.ldm .al false true true true 13#4 0x8000#16) svcS = .next t) :=
  ⟨next_of_leads _ (by decide), next_of_leads _ (by decide), next_of_leads _ (by decide), next_of_leads _ (by decide)⟩

theorem witness_SystemFrame :
    Instr.status ne.cfg (.strImm .ne true true false 1#4 0#4 0#12) ≠ .entry ∧
      (∀ q ∈ Instr.stores (.strImm .ne true true false 1#4 0#4 0#12) ne, ¬ inWindow ne.cfg q.1 q.2) ∧
      (∀ (o : MsrOperand) c fields, Instr.strImm .ne true true false 1#4 0#4 0#12 ≠ o.instr c true fields) := by
  refine ⟨by decide, by unfold inWindow; decide, fun o c f => ?_⟩
  cases o <;> simp [MsrOperand.instr]

/-- The second clause: a step without a host call, and one that makes another call. -/
theorem witness_SystemFrame_step :
    (∀ image rest, due.inputs ≠ .loadCartridge image :: rest) ∧ (∃ t, step due = .next t) ∧
      (∀ image rest, ([.reset] : List HostCall) ≠ .loadCartridge image :: rest) ∧ (∃ t, step { due with inputs := [.reset] } = .next t) := by
  exact ⟨(fun _ _ h => nomatch h), next_of_leads _ (by decide), (fun _ _ h => nomatch h), ⟨_, rfl⟩⟩

/-- A timer alone that counts up to 0xFFFF without wrapping: the last count the closed form covers. -/
theorem witness_TimerClosedForm :
    let s := ioWrite 0x10E .half 0x80#32 (ioWrite 0x10C .half 0xFFF0#32 State.reset)
    s.dev.timersOk s.cfg ∧ (s.dev.timers[3]).enabled = true ∧ (s.dev.timers[3]).cascade = false ∧
      (∀ m : Fin 4, m ≠ 3 → (s.dev.timers[m.val]).enabled = false) ∧
      (s.dev.timers[3]).counter.toNat + timerTicks s.cfg s.dev.timers[3] 15 < 2 ^ 16 := by decide

/-- Every clause of one tick: frozen, counting, wrapping with and without a cascade above, and timer 3. -/
theorem witness_TimerTickRule :
    let s := ioWrite 0x10E .half 0x84#32 (ioWrite 0x10A .half 0x80#32 (ioWrite 0x108 .half 0xFFFF#32 (ioWrite 0x106 .half 0xC0#32
      (ioWrite 0x104 .half 0xFFFF#32 State.reset))))
    (s.dev.timers[0]).ctrl.getLsbD 7 = false ∧
    ((s.dev.timers[3]).ctrl.getLsbD 7 = true ∧ (s.dev.timers[3]).counter ≠ 0xFFFF#16) ∧
    ((s.dev.timers[2]).ctrl.getLsbD 7 = true ∧ (s.dev.timers[2]).counter = 0xFFFF#16 ∧ (s.dev.timers[3]).ctrl.getLsbD 2 = true) ∧
    ((s.dev.timers[1]).ctrl.getLsbD 7 = true ∧ (s.dev.timers[1]).counter = 0xFFFF#16 ∧ (s.dev.timers[2]).ctrl.getLsbD 2 = false) := by
  decide

/-- A run of three words from the internal store, upward, to the video store: the second unit meets every premise; and a run of one unit
from the window. -/
theorem witness_DmaTransfer :
    let s := ioWrite 0xBA .half 0x8400#32 (ioWrite 0xB8 .half 3#32 (ioWrite 0xB4 .word 0x06000000#32
      (ioWrite 0xB0 .word 0x03000000#32 State.reset)))
    let u := ioWrite 0xB8 .half 0x4001#32 (ioWrite 0xB4 .word 0x03000002#32 (ioWrite 0xB0 .word 0x04000100#32 State.reset))
    let x := s.dev.dma[0]
    let dst := fun k => dmaMoves x.dstMode x.unit k x.dst
    (∀ k, k < dmaCount s.cfg 0 x → ¬ inWindow s.cfg (dst k) x.unit) ∧ 1 < dmaCount s.cfg 0 x ∧
    inStore s.cfg (dst 1) x.unit ∧ (dmaCount s.cfg 0 x = 3 ∧ apart s.cfg (dst 2) (dst 1) x.unit) ∧
    plain s.cfg (dmaMoves x.srcMode x.unit 1 x.src) x.unit ∧ apart s.cfg (dst 0) (dmaMoves x.srcMode x.unit 1 x.src) x.unit ∧
    dmaCount u.cfg 0 u.dev.dma[0] = 1 ∧ inStore u.cfg u.dev.dma[0].dst u.dev.dma[0].unit := by
  unfold inStore inWindow plain apart; decide

/-- No channel active, and one that is. -/
theorem witness_DmaAdvance :
    (∀ ch : Fin 4, (State.reset.dev.dma[ch.val]).active = false) ∧ State.reset.dev.dmaOk ∧
      (ioWrite 0xBA .half 0x8000#32 State.reset).dev.dmaOk ∧ (ioWrite 0xBA .half 0x8000#32 State.reset).dev.dma[0].active = true := by
  decide

/-- The clause on an active channel, and the one on an inactive channel. -/
theorem witness_DmaControl_inactive : (State.reset.dev.dma[3]).active = false := by decide

theorem witness_DmaControl : (ioWrite 0xBA .half 0x8000#32 State.reset).dev.dma[0].active = true := by decide

/-- The clauses on an admitted configuration: routed offsets, and the unrouted ones at the edges of the blocks, odd ones too. -/
theorem witness_WindowRoundTrip_table :
    State.reset.cfg.ok = true ∧ (windowMap Config.offsets).length = 37 ∧
    (windowMap Config.offsets).any (fun p => p.1 == 0x0DE && p.2.1 == .dmaCtrl 3) = true ∧
    (∀ off ∈ [0x001, 0x00A, 0x0AE, 0x0E0, 0x101, 0x110], ∀ p ∈ windowMap Config.offsets, p.1 ≠ off) := by decide

/-- The clauses on byte accesses: both bytes of each kind of register. -/
theorem witness_WindowRoundTrip_bytes :
    (∀ off ∈ [0x002, 0x003], ioRegAt Config.offsets (off - off % 2) = .ifr) ∧
    (∀ off ∈ [0x006, 0x007], ioRegAt Config.offsets (off - off % 2) = .vcount) ∧
    (∀ off ∈ [0x00A, 0x00B], ioRegAt Config.offsets (off - off % 2) = .other) ∧
    (∀ off ∈ [0x10C, 0x10D], ioRegAt Config.offsets (off - off % 2) = .timerData 3) ∧
    (∀ off ∈ [0x0BA, 0x0BB], ioRegAt Config.offsets (off - off % 2) = .dmaCtrl 0) := by decide

/-- Byte writes: IE keeps its other byte, IF acknowledges in its own byte only (20_memory.md R85, R87). -/
theorem test_window_bytes :
    let s := withIrq 0x1234#16 0xFFFF#16 1#16 State.reset
    (ioWrite 0x001 .byte 0xAB#32 s).dev.ie = 0xAB34#16 ∧ (ioWrite 0x000 .byte 0xAB#32 s).dev.ie = 0x12AB#16 ∧
      (ioWrite 0x003 .byte 0x0F#32 s).dev.ifr = 0xF0FF#16 ∧ (ioWrite 0x002 .byte 0xF00F#32 s).dev.ifr = 0xFFF0#16 ∧
      (ioRead 0x001 .byte s).1 = 0x12#32 ∧ (ioRead 0x000 .word s).1 = 0xFFFF1234#32 := by decide

/-- A store of an instruction into the register window: `STRH r2, [r1]` at IE; and the two sides of the device clause of `storesReach`. -/
theorem test_window_store :
    leads (exec (.strhImm .al true true false 1#4 2#4 0#8) (at_ 0x1F#32 [(1#4, 0x04000000#32), (2#4, 0xBEEF#32)] []))
      (fun t => t.dev.ie == 0xBEEF#16) = true := by decide
theorem witness_storesReach :
    inWindow Config.default 0x04000000#32 .half ∧ ¬ inWindow Config.default 0x03000000#32 .half := by unfold inWindow; decide

/-- Offsets of each clause, at the edges of the timer and DMA blocks. -/
theorem witness_WindowRoundTrip :
    (∀ off ∈ [0x000, 0x004, 0x008, 0x0B0, 0x0B8, 0x0BA, 0x0DE, 0x100, 0x10E],
      ioRegAt Config.offsets off ≠ .ifr ∧ ioRegAt Config.offsets off ≠ .vcount ∧ ioRegAt Config.offsets off ≠ .other) ∧
    (∀ ch : Fin 4, (State.reset.dev.dma[ch.val]).active = false) ∧
    ioRegAt Config.offsets 0x002 = .ifr ∧ ioRegAt Config.offsets 0x006 = .vcount ∧ ioRegAt Config.offsets 0x00A = .other ∧ ioRegAt Config.offsets 0x0E0 = .other ∧ ioRegAt Config.offsets 0x110 = .other := by decide

theorem witness_ResetState : (∃ t, hostCall .reset ne = .next t) ∧ (regionAt ne.cfg.regions 0x0DFFFFFF).kind.isImage = true :=
  ⟨⟨_, rfl⟩, by decide⟩

/-- The lengths at the edges of the clause on `load_cartridge`, and the premise of InvariantAtReset in another configuration. -/
theorem witness_cartridge : cartLenOk 4 = true ∧ cartLenOk 0x02000000 = true ∧ cartLenOk 0 = false ∧ cartLenOk 6 = false ∧
    cartLenOk 0x02000004 = false ∧ (quiet Config.default).ok = true := by decide

set_option maxRecDepth 8000 in
/-- The invariant holds of a state about to step, and the step answers. -/
theorem witness_InvariantKept :
    State.Inv (State.reset.withFetchWord 32 0xE5810000) ∧ ∃ t, step (State.reset.withFetchWord 32 0xE5810000) = .next t :=
  ⟨by decide, next_of_leads _ (by decide)⟩

/-! ## Other configurations (00_scope.md R8): the expected values are the rules', with the parameter moved -/

theorem test_cfg_swi_vector : leads (runArm 0xEF000000#32 (withCfg (fun c => { c with vector := { c.vector with swi := 0x100#32 } }) usr))
    (fun t => t.pc == 0x100#32 && t.cpsr.mode == .svc) = true := by decide

/-- R291, R296: under `no_effect` only `pc` moves. -/
theorem test_cfg_no_effect : leads (runArm 0xEF000000#32 (withCfg quiet usr)) (fun t => t.pc == 0x08000004#32 && t.cpsr == usr.cpsr) = true ∧
    leads (runThumb 0xDE00#16 (withCfg quiet thumbS)) (fun t => t.pc == 0x08000002#32 && t.cpsr == thumbS.cpsr) = true := by decide

/-- R400: a multiply whose condition fails runs, one whose condition holds stops. -/
theorem test_cfg_refuse : exec (.mul .ne false 0#4 1#4 2#4) (withCfg quiet ne) = .refused .unlistedFamily ∧
    exec (.mul .eq false 0#4 1#4 2#4) (withCfg quiet ne) = .next { withCfg quiet ne with pc := ne.pc + 4#32 } := ⟨rfl, rfl⟩

/-- R27: the leads of the two instruction sets, where the document's other reading takes one compressed width (C1). -/
theorem test_cfg_leads :
    leads (exec (.movShImm .al false 0#4 0#5 .lsl 15#4) (withCfg (fun c => { c with armPcAhead := 4#32 }) ne))
      (fun t => t.x 0#4 == 0x08000004#32) = true ∧
    leads (exec (.tMovHi 0#4 15#4) (withCfg (fun c => { c with thumbPcAhead := 2#32 }) thumbS)) (fun t => t.x 0#4 == 0x08000002#32) = true := by
  decide

/-- R86: IE at the console's own offset. -/
theorem test_cfg_offset : leads (.next (memWrite 0x04000200#32 .half 0x0009#32
      (withCfg (fun c => { c with offset := { c.offset with ie := 0x200 } }) ne)))
    (fun t => t.dev.ie == 9#16 && t.outputs == []) = true := by decide

/-- R631: a unit-cost table. -/
theorem test_cfg_cost :
    (memRead 0x02000000#32 .word ne).2.cycles = 6 ∧
      (memRead 0x02000000#32 .word (withCfg (fun c => { c with
        regions := c.regions.map (fun r => { r with first := ⟨1, 1, 1⟩, sequential := ⟨1, 1, 1⟩ }) }) ne)).2.cycles = 1 := by decide

end Sys2Proof.Tests
end

section
/-! SUPPORT. O5 (spec/00_scope.md R8, spec/20_memory.md R71, R72, R78): the default table page by page, and the bytes of a unit in one region. -/

namespace Sys2Proof.Machine

open Sys2Proof.Claims

/-! ## The default table -/

/-- Whether a table's windows begin and end at multiples of 2^24, so that bits 31:24 of an address decide its region. -/
def inPages (rs : List Region) : Bool := rs.all (fun r => r.base % 2 ^ 24 == 0 && r.span % 2 ^ 24 == 0)

/-- In a table of whole pages an address has the region of the first address of its page. -/
theorem regionAt_page (rs : List Region) (k : Nat) (h : inPages rs = true) :
    regionAt rs k = regionAt rs (2 ^ 24 * (k / 2 ^ 24)) := by
  induction rs with
  | nil => rfl
  | cons r rest ih =>
    simp only [inPages, List.all_cons, Bool.and_eq_true, beq_iff_eq] at h
    obtain ⟨⟨hb, hs⟩, hrest⟩ := h
    have hholds : r.holds k = r.holds (2 ^ 24 * (k / 2 ^ 24)) := by
      simp only [Region.holds, ← Bool.decide_and, decide_eq_decide]; omega
    simp only [regionAt, hholds, ih hrest]

/-- What the spec's tables say of a region: base, kind, store size, and the costs of a halfword and of a word, first and sequential. -/
def regionRow (r : Region) : Nat × RegionKind × Nat × (Nat × Nat) × (Nat × Nat) :=
  (r.base, r.kind, r.size, (accessCycles r .half false, accessCycles r .word false),
    (accessCycles r .half true, accessCycles r .word true))

/-- Each page of the default table, its number in two hexadecimal digits, has the spec's row, where a byte costs what a halfword does. -/
theorem default_page : ∀ hi lo : Fin 16, let r := regionAt Config.regions (2 ^ 24 * (16 * hi.val + lo.val))
    regionRow r = defaultRegion (16 * hi.val + lo.val) ∧
      ∀ q : Bool, accessCycles r .byte q = accessCycles r .half q := by decide

/-- The default table at every address (20_memory.md R72, 70_reset_and_hazards.md R631). -/
theorem default_regionOf (a : Word) : regionRow (regionOf Config.default a) = defaultRegion (a.toNat / 2 ^ 24) ∧
    ∀ q : Bool, accessCycles (regionOf Config.default a) .byte q = accessCycles (regionOf Config.default a) .half q := by
  have hpage : regionOf Config.default a = regionAt Config.regions (2 ^ 24 * (a.toNat / 2 ^ 24)) :=
    regionAt_page Config.regions a.toNat (by decide)
  have hlt := a.isLt
  have hdigits : 16 * (a.toNat / 2 ^ 24 / 16) + a.toNat / 2 ^ 24 % 16 = a.toNat / 2 ^ 24 := by omega
  have h := default_page ⟨a.toNat / 2 ^ 24 / 16, by omega⟩ ⟨a.toNat / 2 ^ 24 % 16, by omega⟩
  simp only [hdigits] at h
  rwa [hpage]

/-! ## The bytes of a unit -/

theorem regionsCover_of_ok {c : Cfg} (h : c.ok = true) : regionsCover 0 c.regions = true := by
  simp only [Cfg.ok, Bool.and_eq_true] at h
  obtain ⟨⟨⟨⟨⟨⟨hcover, _⟩, _⟩, _⟩, _⟩, _⟩, _⟩ := h
  exact hcover

theorem region_ok_of_ok {c : Cfg} (h : c.ok = true) {r : Region} (hr : r ∈ c.regions) : r.ok = true := by
  simp only [Cfg.ok, Bool.and_eq_true, List.all_eq_true] at h
  obtain ⟨⟨⟨⟨⟨⟨_, hall⟩, _⟩, _⟩, _⟩, _⟩, _⟩ := h
  exact hall r hr

/-- In an ok configuration the region of an address holds it, and its window begins and ends at a multiple of 4. -/
theorem regionOf_spec {c : Cfg} (h : c.ok = true) (a : Word) :
    regionOf c a ∈ c.regions ∧ (regionOf c a).holds a.toNat = true ∧ (regionOf c a).base % 4 = 0 ∧
      ((regionOf c a).base + (regionOf c a).span) % 4 = 0 :=
  regionAt_spec c.regions 0 a.toNat (regionsCover_of_ok h) (Nat.zero_le _) a.isLt

/-- In an ok configuration a region that holds an address is its region. -/
theorem eq_regionOf_of_holds {c : Cfg} (h : c.ok = true) (a : Word) {r : Region} (hr : r ∈ c.regions)
    (ha : r.holds a.toNat = true) : r = regionOf c a :=
  (regionAt_unique c.regions 0 a.toNat r (regionsCover_of_ok h) hr ha).1.symm

/-- The store of a region that is not UNUSED is a whole, non-zero number of words. -/
theorem size_of_ok {r : Region} (h : r.ok = true) (hk : r.kind ≠ .unused) : r.size % 4 = 0 ∧ 0 < r.size := by
  simp only [Region.ok, Bool.and_eq_true, Bool.or_eq_true, beq_iff_eq, bne_iff_ne] at h
  obtain ⟨⟨hsize, hne⟩, _⟩ := h
  exact ⟨hsize, Nat.pos_of_ne_zero (hne.resolve_left hk)⟩

theorem Width.bytes_dvd_four (n : Width) : n.bytes ∣ 4 := by cases n <;> decide

/-- The bytes of a unit follow its first address without wrapping round. -/
theorem toNat_unit_byte (a : Word) (n : Width) (j : Nat) (hj : j < n.bytes) :
    (alignDown a n + BitVec.ofNat 32 j).toNat = a.toNat - a.toNat % n.bytes + j := by
  have hlt := a.isLt
  rw [BitVec.toNat_add, alignDown_toNat, BitVec.toNat_ofNat]
  cases n <;> simp only [Width.bytes] at * <;> omega

/-- Every byte of a unit lies in the region of its address (20_memory.md R78). -/
theorem regionOf_unit_byte {c : Cfg} (h : c.ok = true) (a : Word) (n : Width) (j : Nat) (hj : j < n.bytes) :
    regionOf c (alignDown a n + BitVec.ofNat 32 j) = regionOf c a := by
  obtain ⟨hmem, hholds, hbase, hend⟩ := regionOf_spec h a
  refine (eq_regionOf_of_holds h _ hmem ?_).symm
  rw [toNat_unit_byte a n j hj]
  simp only [Region.holds, Bool.and_eq_true, decide_eq_true_eq] at hholds ⊢
  cases n <;> simp only [Width.bytes] at * <;> omega

/-- Offsets of a unit's bytes do not wrap round in a store that is a whole number of units. -/
theorem unit_byte_mod {d k j size : Nat} (hd : k ∣ d) (hsize : k ∣ size) (hpos : 0 < size) (hj : j < k) :
    (d + j) % size = d % size + j := by
  have hunit : k ∣ d % size := (Nat.dvd_mod_iff hsize).mpr hd
  have hlt : d % size + j < size := by
    obtain ⟨x, hx⟩ := hunit
    obtain ⟨y, hy⟩ := hsize
    have hxy : x < y := Nat.lt_of_mul_lt_mul_left (a := k) (by rw [← hx, ← hy]; exact Nat.mod_lt d hpos)
    calc d % size + j < k * x + k := by omega
      _ = k * (x + 1) := by ring
      _ ≤ k * y := Nat.mul_le_mul_left k hxy
      _ = size := hy.symm
  rw [Nat.add_mod, Nat.mod_eq_of_lt (a := j) (by omega), Nat.mod_eq_of_lt hlt]

/-- The bytes of a unit stand under successive keys (20_memory.md R72, R78). -/
theorem byteKey_unit_byte {c : Cfg} (h : c.ok = true) (a : Word) (n : Width) (hk : (regionOf c a).kind ≠ .unused)
    (j : Nat) (hj : j < n.bytes) : byteKey c (alignDown a n + BitVec.ofNat 32 j) = unitKey c a n + j := by
  obtain ⟨hmem, hholds, hbase, hend⟩ := regionOf_spec h a
  obtain ⟨hsize, hpos⟩ := size_of_ok (region_ok_of_ok h hmem) hk
  simp only [Region.holds, Bool.and_eq_true, decide_eq_true_eq] at hholds
  have hfirst : (regionOf c a).base ≤ a.toNat - a.toNat % n.bytes := by
    cases n <;> simp only [Width.bytes] <;> omega
  have hd : n.bytes ∣ a.toNat - a.toNat % n.bytes - (regionOf c a).base :=
    Nat.dvd_sub (Nat.dvd_sub_mod _) ((Width.bytes_dvd_four n).trans (Nat.dvd_of_mod_eq_zero hbase))
  have hmod := unit_byte_mod hd ((Width.bytes_dvd_four n).trans (Nat.dvd_of_mod_eq_zero hsize)) hpos hj
  simp only [unitKey, byteKey, offsetOf, regionOf_unit_byte h a n j hj, regionOf_alignDown c a n h, toNat_unit_byte a n j hj,
    alignDown_toNat, Nat.sub_add_comm hfirst, hmod, Nat.add_assoc]

/-- Settles O5: the default table page by page, the other parameters by their values, and the cover of the address space with
windows and stores of whole words for every ok configuration. -/
theorem regionTable : Obligations.RegionTable := by
  unfold Obligations.RegionTable
  refine ⟨fun a => ?_, ?_, fun c a n h => ⟨?_, fun j hj => ⟨regionOf_unit_byte h a n j hj, fun hk => byteKey_unit_byte h a n hk j hj⟩⟩⟩
  · obtain ⟨hrow, hbyte⟩ := default_regionOf a
    exact ⟨hrow, hbyte false, hbyte true⟩
  · decide
  · obtain ⟨hmem, hholds, _⟩ := regionOf_spec h a
    exact ⟨hmem, hholds, fun r hr hra => eq_regionOf_of_holds h a hr hra⟩

end Sys2Proof.Machine
end

section
/-! SUPPORT. O50 (spec/00_scope.md R8, spec/10_state.md R30, spec/20_memory.md R87): what each shared body of the meanings keeps of the
saved status words, the devices, the outputs, the configuration and the pending host calls. -/

namespace Sys2Proof.Machine

open Sys2Proof.Claims

/-! ## What a change of state keeps of the system -/

/-- The configuration and the pending calls are unchanged; the devices and outputs too when no store of `ws` is in the register window;
the saved status words too when `saved` holds. -/
def SystemKept (saved : Prop) (ws : List (Word × Width)) (s t : State) : Prop :=
  (saved → t.spsr = s.spsr) ∧ ((∀ q ∈ ws, ¬ inWindow s.cfg q.1 q.2) → t.dev = s.dev ∧ t.outputs = s.outputs) ∧
    t.cfg = s.cfg ∧ t.inputs = s.inputs

/-- Every next state of a result keeps the system so. -/
structure NextKeeps (saved : Prop) (ws : List (Word × Width)) (s : State) (r : Result) : Prop where
  kept : ∀ t, r = .next t → SystemKept saved ws s t

section
variable {saved : Prop} {ws : List (Word × Width)} {s t u : State}

theorem SystemKept.of_eq (hspsr : t.spsr = s.spsr) (hdev : t.dev = s.dev) (hout : t.outputs = s.outputs) (hcfg : t.cfg = s.cfg)
    (hin : t.inputs = s.inputs) : SystemKept saved ws s t :=
  ⟨fun _ => hspsr, fun _ => ⟨hdev, hout⟩, hcfg, hin⟩

theorem SystemKept.trans {vs : List (Word × Width)} (h : SystemKept saved ws s t) (h' : SystemKept saved vs t u) :
    SystemKept saved (ws ++ vs) s u := by
  obtain ⟨hspsr, hdev, hcfg, hin⟩ := h
  obtain ⟨hspsr', hdev', hcfg', hin'⟩ := h'
  rw [hcfg] at hdev'
  refine ⟨fun hq => (hspsr' hq).trans (hspsr hq), fun hw => ?_, hcfg'.trans hcfg, hin'.trans hin⟩
  obtain ⟨hd, ho⟩ := hdev fun q hq => hw q (List.mem_append_left _ hq)
  obtain ⟨hd', ho'⟩ := hdev' fun q hq => hw q (List.mem_append_right _ hq)
  exact ⟨hd'.trans hd, ho'.trans ho⟩

/-- What follows a store without touching the system adds nothing to what it reaches. -/
theorem SystemKept.trans_nil (h : SystemKept saved ws s t) (h' : SystemKept saved [] t u) : SystemKept saved ws s u := by
  simpa using h.trans h'

theorem SystemKept.refl (s : State) : SystemKept saved ws s s := .of_eq rfl rfl rfl rfl rfl

theorem SystemKept.ite {c : Prop} [Decidable c] (h : SystemKept saved ws s t) (h' : SystemKept saved ws s u) :
    SystemKept saved ws s (if c then t else u) := by split <;> assumption

theorem systemKept_setX (i : Reg) (v : Word) (s : State) : SystemKept saved ws s (s.setX i v) :=
  .of_eq (by simp) (by simp) (by simp) (by simp) (by simp)

theorem systemKept_memWrite (a : Word) (n : Width) (v : Word) (s : State) : SystemKept saved [(a, n)] s (memWrite a n v s) :=
  ⟨fun _ => by simp, fun hw => memWrite_dev_of_not_io a n v s (hw _ List.mem_cons_self), by simp, by simp⟩

theorem systemKept_writeWords (vs : List Word) (a : Word) (s : State) :
    SystemKept saved (wordsFrom vs.length a) s (writeWords vs a s) := by
  induction vs generalizing a s with
  | nil => exact .of_eq rfl rfl rfl rfl rfl
  | cons v vs ih => exact (systemKept_memWrite a .word v s).trans (ih (a + 4#32) _)

theorem storeValues_length (a : Word) (sbit w : Bool) (rn : Reg) (base final : Word) (s : State) (first : Bool) (l : List Reg) :
    (storeValues a sbit w rn base final s first l).length = l.length := by
  induction l generalizing first with
  | nil => rfl
  | cons i rest ih => simp [storeValues, ih]

/-- A run of writes of the values of a block store, one per listed register. -/
theorem systemKept_storeValues (a : Word) (sbit w : Bool) (rn : Reg) (base final : Word) (s : State) (l : List Reg) (start : Word)
    (u : State) :
    SystemKept saved (wordsFrom l.length start) u (writeWords (storeValues a sbit w rn base final s true l) start u) := by
  simpa only [storeValues_length] using systemKept_writeWords (storeValues a sbit w rn base final s true l) start u

theorem SystemKept.of_isLoad {n : Width} {load : Word → State → Word × State} (hl : IsLoad n load) (a : Word) (s : State) :
    SystemKept saved ws s (load a s).2 := by
  obtain ⟨c, d, h⟩ := hl a s
  rw [h]; exact .of_eq rfl rfl rfl rfl rfl

theorem systemKept_readWords (k : Nat) (a : Word) (s : State) : SystemKept saved ws s (readWords k a s).2 := by
  obtain ⟨c, b, d, h⟩ := readWords_state k a s
  rw [h]; exact .of_eq rfl rfl rfl rfl rfl

theorem systemKept_setRegs (m : Mode) (l : List (Reg × Word)) (s : State) : SystemKept saved ws s (setRegs m l s) := by
  obtain ⟨r, h⟩ := setRegs_state m l s
  rw [h]; exact .of_eq rfl rfl rfl rfl rfl

theorem systemKept_writeReg (d : Reg) (v : Word) (s : State) : SystemKept saved ws s (writeReg d v s) :=
  .of_eq (by simp) (by simp) (by simp) (by simp) (by simp)

theorem systemKept_mapCpsr (f : Cpsr → Cpsr) (s : State) : SystemKept saved ws s (s.mapCpsr f) := .of_eq rfl rfl rfl rfl rfl

theorem systemKept_branchTo (v : Word) (s : State) : SystemKept saved ws s (branchTo v s) := .of_eq rfl rfl rfl rfl rfl

/-! ## Sequencing -/

theorem NextKeeps.next (h : SystemKept saved ws s t) : NextKeeps saved ws s (.next t) := ⟨by rintro _ ⟨⟩; exact h⟩

theorem NextKeeps.refused (e : Refusal) : NextKeeps saved ws s (.refused e) := ⟨fun _ h => by cases h⟩

theorem NextKeeps.ite {c : Prop} [Decidable c] {r r' : Result} (h : NextKeeps saved ws s r) (h' : NextKeeps saved ws s r') :
    NextKeeps saved ws s (if c then r else r') := by split <;> assumption

theorem NextKeeps.after {r : Result} (h : SystemKept saved ws s t) (h' : NextKeeps saved [] t r) : NextKeeps saved ws s r :=
  ⟨fun u hu => h.trans_nil (h'.kept u hu)⟩

theorem NextKeeps.stores_eq {r : Result} {vs : List (Word × Width)} (h : NextKeeps saved vs s r) (e : vs = ws) :
    NextKeeps saved ws s r := e ▸ h

theorem NextKeeps.armExec {c : Cond} {body : Word → State → Result}
    (h : NextKeeps saved ws { s with pc := s.pc + 4#32 } (body s.pc { s with pc := s.pc + 4#32 })) :
    NextKeeps saved ws s (armExec c body s) := by
  by_cases hc : condHolds c s.cpsr = true
  · rw [armExec_pass c body s hc]; exact ⟨h.kept⟩
  · rw [armExec_fail c body s (by simpa using hc)]; exact .next (.of_eq rfl rfl rfl rfl rfl)

theorem NextKeeps.thumbExec {body : Word → State → Result}
    (h : NextKeeps saved ws { s with pc := s.pc + 2#32 } (body s.pc { s with pc := s.pc + 2#32 })) :
    NextKeeps saved ws s (thumbExec body s) := ⟨h.kept⟩

theorem NextKeeps.unlisted {body : Word → State → Result} {a : Word} (h : NextKeeps saved ws s (body a s)) :
    NextKeeps saved ws s (unlistedBody body a s) := ⟨fun t ht => h.kept t ((unlistedBody_eq_next body a s t).mp ht).2⟩

theorem NextKeeps.andThen {r : Result} {f : State → Result} (h : NextKeeps saved ws s r)
    (hf : ∀ t, NextKeeps saved [] t (f t)) : NextKeeps saved ws s (andThen r f) := by
  constructor
  intro u hu
  obtain ⟨t, ht, hftu⟩ := (andThen_eq_next r f u).mp hu
  exact (h.kept t ht).trans_nil ((hf t).kept u hftu)

theorem NextKeeps.restoreCpsr : NextKeeps saved ws s (restoreCpsr s) := by
  constructor
  intro t ht
  obtain ⟨p, c, _, _, rfl⟩ := (restoreCpsr_eq_next s t).mp ht
  exact .of_eq rfl rfl rfl rfl rfl

/-! ## The bodies that meanings share -/

theorem nextKeeps_dpFinish (sf : Bool) (rd : Reg) (out : AluOut) (s : State) : NextKeeps saved ws s (dpFinish sf rd out s) :=
  .ite
    (.ite (.andThen .restoreCpsr fun t => .next (systemKept_writeReg rd _ t))
      (.next ((systemKept_mapCpsr _ s).trans_nil (systemKept_writeReg rd _ _))))
    (.next (systemKept_writeReg rd _ s))

theorem nextKeeps_dpWrite (f : AluOp) (c : Cond) (sf : Bool) (rn rd : Reg) (o : Operand2) (s : State) :
    NextKeeps saved ws s (dpWrite f c sf rn rd o s) := .armExec (nextKeeps_dpFinish sf rd _ _)

theorem nextKeeps_dpCompare (f : AluOp) (c : Cond) (rn : Reg) (o : Operand2) (s : State) :
    NextKeeps saved ws s (dpCompare f c rn o s) := .armExec (.next (systemKept_mapCpsr _ _))

theorem nextKeeps_mulFinish (sf : Bool) (rd : Reg) (r : Word) (s : State) : NextKeeps saved ws s (mulFinish sf rd r s) :=
  .next ((SystemKept.ite (systemKept_mapCpsr _ s) (.refl s)).trans_nil (systemKept_writeReg rd r _))

theorem nextKeeps_longMulFinish (sf : Bool) (rdHi rdLo : Reg) (r : BitVec 64) (s : State) :
    NextKeeps saved ws s (longMulFinish sf rdHi rdLo r s) :=
  .next (((SystemKept.ite (systemKept_mapCpsr _ s) (.refl s)).trans_nil (systemKept_writeReg rdLo _ _)).trans_nil
    (systemKept_writeReg rdHi _ _))

theorem systemKept_writeBack (rn : Reg) (d : Address) (s : State) : SystemKept saved ws s (writeBack rn d s) := by
  unfold writeBack; exact .ite (systemKept_setX rn _ s) (.refl s)

theorem nextKeeps_transferLoad {n : Width} {load : Word → State → Word × State} (hl : IsLoad n load) (rn rd : Reg) (d : Address)
    (s : State) : NextKeeps saved ws s (transferLoad load rn rd d s) :=
  .next (((SystemKept.of_isLoad hl d.addr s).trans_nil (systemKept_writeBack rn d _)).trans_nil (systemKept_writeReg rd _ _))

theorem nextKeeps_transferStore (n : Width) (a : Word) (rn rd : Reg) (d : Address) (s : State) :
    NextKeeps saved [(d.addr, n)] s (transferStore n a rn rd d s) :=
  .next ((systemKept_memWrite d.addr n _ s).trans_nil (systemKept_writeBack rn d _))

theorem nextKeeps_swapBody {n : Width} {load : Word → State → Word × State} (hl : IsLoad n load) (rn rd rm : Reg) (a : Word)
    (s : State) : NextKeeps saved [(mulOperand a rn s, n)] s (swapBody load n rn rd rm a s) :=
  .next (((SystemKept.of_isLoad hl (mulOperand a rn s) s).trans (ws := []) (systemKept_memWrite _ n _ _)).trans_nil
    (systemKept_writeReg rd _ _))

theorem nextKeeps_blockStore (p u sbit w : Bool) (rn : Reg) (list : BitVec 16) (a : Word) (s : State) :
    NextKeeps saved
      (wordsFrom (regList list).length (blockAddress (s.xOr (a + s.cfg.armPcAhead) rn) p u (regList list).length).1) s
      (blockStore p u sbit w rn list a s) :=
  .next (.ite ((systemKept_storeValues a sbit w rn _ _ s _ _ s).trans_nil (systemKept_setX rn _ _))
    (systemKept_storeValues a sbit w rn _ _ s _ _ s))

/-- The reads of a block load, its writeback and its register writes. -/
theorem systemKept_loadRegs (k : Nat) (a : Word) (b : Bool) (rn : Reg) (v : Word) (m : Mode) (l : List (Reg × Word)) (s : State) :
    SystemKept saved ws s (setRegs m l (if b then (readWords k a s).2.setX rn v else (readWords k a s).2)) :=
  (SystemKept.ite ((systemKept_readWords k a s).trans_nil (systemKept_setX rn v _)) (systemKept_readWords k a s)).trans_nil
    (systemKept_setRegs m l _)

theorem nextKeeps_blockLoad (p u sbit w : Bool) (rn : Reg) (list : BitVec 16) (a : Word) (s : State) :
    NextKeeps saved ws s (blockLoad p u sbit w rn list a s) :=
  .ite
    (.ite (.andThen (.after (systemKept_loadRegs ..) .restoreCpsr) fun t => .next (systemKept_branchTo _ t))
      (.next ((systemKept_loadRegs ..).trans_nil (systemKept_branchTo _ _))))
    (.next (systemKept_loadRegs ..))

theorem nextKeeps_psrWrite (p : Bool) (fields : BitVec 4) (v : Word) (s : State) (hp : saved → p = false) :
    NextKeeps saved ws s (psrWrite p fields v s) := by
  constructor
  intro t ht
  obtain ⟨c, f, rfl, _, hspsr⟩ := psrWrite_state p fields v s t ht
  exact ⟨fun hq => hspsr (hp hq), fun _ => ⟨rfl, rfl⟩, rfl, rfl⟩

/-- An exception entry keeps all but the saved status word of the mode it enters. -/
theorem systemKept_enterException (m : Mode) (vec ret : Word) (s : State) (hq : ¬ saved) :
    SystemKept saved ws s (enterException m vec ret s) :=
  ⟨fun q => absurd q hq, fun _ => ⟨by simp, by simp⟩, by simp, by simp⟩

theorem nextKeeps_raiseSwi (ret : Word) (s : State) (hq : saved → trapStatus s.cfg.swiPolicy ≠ .entry) :
    NextKeeps saved ws s (raiseSwi ret s) := by
  unfold raiseSwi
  split
  case h_1 h => exact .next (systemKept_enterException _ _ _ s fun q => hq q (by rw [h]; rfl))
  case h_2 => exact .next (.refl s)

theorem nextKeeps_raiseUndefined (ret : Word) (s : State) (hq : saved → trapStatus s.cfg.unrecognizedPolicy ≠ .entry) :
    NextKeeps saved ws s (raiseUndefined ret s) := by
  unfold raiseUndefined
  split
  case h_1 h => exact .next (systemKept_enterException _ _ _ s fun q => hq q (by rw [h]; rfl))
  case h_2 => exact .next (.refl s)

end

end Sys2Proof.Machine
end

section
/-! SUPPORT. O50: what each instruction keeps of the system, by the body its row shares with others, and what a step adds. -/

namespace Sys2Proof.Machine

open Sys2Proof.Claims

section
variable {saved : Prop} {ws : List (Word × Width)} {s : State}

/-! ## Bodies of single rows -/

theorem nextKeeps_execMrs (c : Cond) (p : Bool) (rd : Reg) (s : State) : NextKeeps saved ws s (execMrs c p rd s) := by
  unfold execMrs
  refine .armExec (.ite ?_ (.next (systemKept_writeReg _ _ _)))
  split
  · exact .refused .noSpsr
  · exact .next (systemKept_writeReg rd _ _)

/-! ## Compressed-mode bodies -/

/-- Flags, then one register: the shape of the arithmetic, the logic, the shifts and the moves (47_thumb_alu.md R302). -/
theorem nextKeeps_flagsThenReg (f : Cpsr → Cpsr) (i : Reg) (v : Word) (s : State) :
    NextKeeps saved ws s (.next ((s.mapCpsr f).setX i v)) := .next ((systemKept_mapCpsr f s).trans_nil (systemKept_setX i v _))

theorem nextKeeps_thumbLoad {n : Width} {load : Word → State → Word × State} (hl : IsLoad n load) (rd : LowReg) (addr : Word)
    (s : State) : NextKeeps saved ws s (thumbLoad load rd addr s) :=
  .next ((SystemKept.of_isLoad hl addr s).trans_nil (systemKept_setX _ _ _))

theorem nextKeeps_thumbStore (n : Width) (rd : LowReg) (addr : Word) (s : State) :
    NextKeeps saved [(addr, n)] s (thumbStore n rd addr s) := .next (systemKept_memWrite addr n _ s)

theorem nextKeeps_pushBody (r : Bool) (list : BitVec 8) (s : State) :
    NextKeeps saved (wordsFrom (pushList r list).length (s.x 13#4 - BitVec.ofNat 32 (4 * (pushList r list).length))) s
      (pushBody r list s) := by
  have hstores := systemKept_writeWords (saved := saved) ((pushList r list).map (fun i => s.x i))
    (s.x 13#4 - BitVec.ofNat 32 (4 * (pushList r list).length)) s
  rw [List.length_map] at hstores
  exact .next (hstores.trans_nil (systemKept_setX 13#4 _ _))

theorem nextKeeps_popBody (r : Bool) (list : BitVec 8) (s : State) : NextKeeps saved ws s (popBody r list s) := by
  have hregs : ∀ k a v m l, SystemKept saved ws s (setRegs m l ((readWords k a s).2.setX 13#4 v)) := fun k a v m l =>
    ((systemKept_readWords k a s).trans_nil (systemKept_setX 13#4 v _)).trans_nil (systemKept_setRegs m l _)
  exact .next (.ite ((hregs ..).trans_nil (systemKept_branchTo _ _)) (hregs ..))

theorem nextKeeps_stmiaBody (rb : LowReg) (list : BitVec 8) (a : Word) (s : State) :
    NextKeeps saved (wordsFrom (lowRegList list).length (s.x (lo rb))) s (stmiaBody rb list a s) :=
  .next ((systemKept_storeValues ..).trans_nil (systemKept_setX _ _ _))

theorem nextKeeps_ldmiaBody (rb : LowReg) (list : BitVec 8) (s : State) : NextKeeps saved ws s (ldmiaBody rb list s) :=
  .next ((SystemKept.ite (systemKept_readWords ..) ((systemKept_readWords ..).trans_nil (systemKept_setX _ _ _))).trans_nil
    (systemKept_setRegs _ _ _))

theorem nextKeeps_thumbBranchIf (c : Cond) (off : BitVec 9) (s : State) : NextKeeps saved ws s (thumbBranchIf c off s) :=
  .thumbExec (.next (.ite (systemKept_branchTo _ _) (.refl _)))

theorem systemKept_branchExchange (v : Word) (s : State) : SystemKept saved ws s (branchExchange v s) :=
  (systemKept_mapCpsr _ s).trans_nil (systemKept_branchTo v _)

end

/-! ## Operands do not depend on the stored program counter -/

theorem lo_ne_pc : ∀ r : LowReg, lo r ≠ 15#4 := by decide

theorem x_withPc (i : Reg) (hi : i ≠ 15#4) (q : Word) (s : State) : ({ s with pc := q }).x i = s.x i := x_congr i s _ hi rfl rfl

theorem low_withPc (r : LowReg) (q : Word) (s : State) : ({ s with pc := q }).x (lo r) = s.x (lo r) := x_withPc _ (lo_ne_pc r) q s

theorem sp_withPc (q : Word) (s : State) : ({ s with pc := q }).x 13#4 = s.x 13#4 := x_withPc _ (by decide) q s

theorem xOr_withPc (v : Word) (i : Reg) (q : Word) (s : State) : ({ s with pc := q }).xOr v i = s.xOr v i := by
  unfold State.xOr; split
  · rfl
  · next hi => exact x_withPc i hi q s

theorem shiftedOffset_withPc (a : Word) (shamt : BitVec 5) (ty : ShiftType) (rm : Reg) (q : Word) (s : State) :
    shiftedOffset a shamt ty rm { s with pc := q } = shiftedOffset a shamt ty rm s := by
  simp only [shiftedOffset, xOr_withPc]

theorem transferAddress_withPc (a : Word) (p u w : Bool) (rn : Reg) (off q : Word) (s : State) :
    transferAddress a p u w rn off { s with pc := q } = transferAddress a p u w rn off s := by
  simp only [transferAddress, xOr_withPc]

theorem thumbRegAddress_withPc (rb ro : LowReg) (q : Word) (s : State) :
    thumbRegAddress rb ro { s with pc := q } = thumbRegAddress rb ro s := by
  simp only [thumbRegAddress, low_withPc]

theorem thumbImmAddress_withPc (rb : LowReg) (off q : Word) (s : State) :
    thumbImmAddress rb off { s with pc := q } = thumbImmAddress rb off s := by
  simp only [thumbImmAddress, low_withPc]

/-! ## Every instruction -/

/-- An instruction that is neither a trap nor MSR to the SPSR. -/
def leavesSaved (cfg : Cfg) (i : Instr) : Prop :=
  Instr.status cfg i ≠ .entry ∧ ∀ (o : MsrOperand) c fields, i ≠ o.instr c true fields

theorem eq_false_of_leavesSaved (o : MsrOperand) {cfg : Cfg} {c : Cond} {p : Bool} {fields : BitVec 4}
    (h : leavesSaved cfg (o.instr c p fields)) : p = false := by
  obtain ⟨_, hmsr⟩ := h
  cases p
  · rfl
  · exact absurd rfl (hmsr o c fields)

/-- What each instruction keeps of the system, by the body its row shares with others. -/
theorem nextKeeps_exec (i : Instr) (s : State) : NextKeeps (leavesSaved s.cfg i) (Instr.stores i s) s (exec i s) := by
  unfold exec
  cases i with
  | andImm | andShImm | andShReg | eorImm | eorShImm | eorShReg | subImm | subShImm | subShReg | rsbImm | rsbShImm | rsbShReg
  | addImm | addShImm | addShReg | adcImm | adcShImm | adcShReg | sbcImm | sbcShImm | sbcShReg | rscImm | rscShImm | rscShReg
  | orrImm | orrShImm | orrShReg | movImm | movShImm | movShReg | bicImm | bicShImm | bicShReg | mvnImm | mvnShImm | mvnShReg =>
    exact nextKeeps_dpWrite ..
  | tstImm | tstShImm | tstShReg | teqImm | teqShImm | teqShReg | cmpImm | cmpShImm | cmpShReg | cmnImm | cmnShImm | cmnShReg =>
    exact nextKeeps_dpCompare ..
  | mrs => exact nextKeeps_execMrs ..
  | msrReg c p fields rm => exact .armExec (nextKeeps_psrWrite _ _ _ _ (eq_false_of_leavesSaved (.reg rm)))
  | msrImm c p fields rot imm8 => exact .armExec (nextKeeps_psrWrite _ _ _ _ (eq_false_of_leavesSaved (.imm rot imm8)))
  | bx => exact .armExec (.next (systemKept_branchExchange _ _))
  | b => exact .armExec (.next (systemKept_branchTo _ _))
  | bl => exact .armExec (.next ((systemKept_setX _ _ _).trans_nil (systemKept_branchTo _ _)))
  | ldrImm | ldrReg => exact .armExec (nextKeeps_transferLoad loadWord_isLoad ..)
  | ldrbImm | ldrbReg => exact .armExec (nextKeeps_transferLoad loadByte_isLoad ..)
  | ldrhReg | ldrhImm => exact .armExec (.unlisted (nextKeeps_transferLoad loadHalf_isLoad ..))
  | ldrsbReg | ldrsbImm => exact .armExec (.unlisted (nextKeeps_transferLoad loadSignedByte_isLoad ..))
  | ldrshReg | ldrshImm => exact .armExec (.unlisted (nextKeeps_transferLoad loadSignedHalf_isLoad ..))
  | strImm | strReg | strbImm | strbReg =>
    exact .armExec ((nextKeeps_transferStore ..).stores_eq
      (by simp only [Instr.stores, transferAddress_withPc, shiftedOffset_withPc]))
  | strhImm | strhReg =>
    exact .armExec (.unlisted ((nextKeeps_transferStore ..).stores_eq
      (by simp only [Instr.stores, transferAddress_withPc, xOr_withPc])))
  | ldm => exact .armExec (nextKeeps_blockLoad ..)
  | stm => exact .armExec ((nextKeeps_blockStore ..).stores_eq (by simp only [Instr.stores, xOr_withPc]))
  | swp =>
    exact .armExec (.unlisted ((nextKeeps_swapBody loadWord_isLoad ..).stores_eq (by simp only [Instr.stores, mulOperand, xOr_withPc])))
  | swpb =>
    exact .armExec (.unlisted ((nextKeeps_swapBody loadByte_isLoad ..).stores_eq (by simp only [Instr.stores, mulOperand, xOr_withPc])))
  | mul | mla => exact .armExec (.unlisted (nextKeeps_mulFinish ..))
  | umull | umlal | smull | smlal => exact .armExec (.unlisted (nextKeeps_longMulFinish ..))
  | swi => exact .armExec (nextKeeps_raiseSwi _ _ And.left)
  | undefArch | undefCopTransfer | undefCopOp | undefDoubleword => exact .armExec (nextKeeps_raiseUndefined _ _ And.left)
  | tLslImm | tLsrImm | tAsrImm | tLsl | tLsr | tAsr | tRor | tAddReg | tSubReg | tAddImm3 | tSubImm3 | tAddImm8 | tSubImm8 | tAdc
  | tSbc | tNeg | tMovImm8 | tAnd | tEor | tOrr | tBic | tMvn => exact .thumbExec (nextKeeps_flagsThenReg ..)
  | tMul => exact .thumbExec (.unlisted (nextKeeps_flagsThenReg ..))
  | tCmpImm8 | tCmp | tCmn | tCmpHi | tTst => exact .thumbExec (.next (systemKept_mapCpsr _ _))
  | tAddHi | tMovHi => exact .thumbExec (.next (systemKept_writeReg _ _ _))
  | tAddPc | tAddSp | tAddSpPos | tAddSpNeg | tBlHi => exact .thumbExec (.next (systemKept_setX _ _ _))
  | tBx => exact .thumbExec (.next (systemKept_branchExchange _ _))
  | tB => exact .thumbExec (.next (systemKept_branchTo _ _))
  | tBlLo => exact .thumbExec (.next ((systemKept_setX _ _ _).trans_nil (systemKept_branchTo _ _)))
  | tBeq | tBne | tBcs | tBcc | tBmi | tBpl | tBvs | tBvc | tBhi | tBls | tBge | tBlt | tBgt | tBle => exact nextKeeps_thumbBranchIf ..
  | tLdrPc | tLdrReg | tLdrImm | tLdrSp => exact .thumbExec (nextKeeps_thumbLoad loadWord_isLoad ..)
  | tLdrbReg | tLdrbImm => exact .thumbExec (nextKeeps_thumbLoad loadByte_isLoad ..)
  | tLdrhReg | tLdrhImm => exact .thumbExec (.unlisted (nextKeeps_thumbLoad loadHalf_isLoad ..))
  | tLdsbReg => exact .thumbExec (.unlisted (nextKeeps_thumbLoad loadSignedByte_isLoad ..))
  | tLdshReg => exact .thumbExec (.unlisted (nextKeeps_thumbLoad loadSignedHalf_isLoad ..))
  | tStrReg | tStrbReg =>
    exact .thumbExec ((nextKeeps_thumbStore ..).stores_eq (by simp only [Instr.stores, thumbRegAddress_withPc]))
  | tStrImm | tStrbImm =>
    exact .thumbExec ((nextKeeps_thumbStore ..).stores_eq (by simp only [Instr.stores, thumbImmAddress_withPc]))
  | tStrSp => exact .thumbExec ((nextKeeps_thumbStore ..).stores_eq (by simp only [Instr.stores, sp_withPc]))
  | tStrhReg =>
    exact .thumbExec (.unlisted ((nextKeeps_thumbStore ..).stores_eq (by simp only [Instr.stores, thumbRegAddress_withPc])))
  | tStrhImm =>
    exact .thumbExec (.unlisted ((nextKeeps_thumbStore ..).stores_eq (by simp only [Instr.stores, thumbImmAddress_withPc])))
  | tPush => exact .thumbExec ((nextKeeps_pushBody ..).stores_eq (by simp only [Instr.stores, sp_withPc]))
  | tPop => exact .thumbExec (nextKeeps_popBody ..)
  | tStmia => exact .thumbExec ((nextKeeps_stmiaBody ..).stores_eq (by simp only [Instr.stores, low_withPc]))
  | tLdmia => exact .thumbExec (nextKeeps_ldmiaBody ..)
  | tSwi => exact .thumbExec (nextKeeps_raiseSwi _ _ And.left)
  | tUndefBxH1 | tUndefB1 | tUndefB2 | tUndefB6 | tUndefB8 | tUndefBe | tUndefCond14 | tUndefBlxSuffix =>
    exact .thumbExec (nextKeeps_raiseUndefined _ _ And.left)

/-! ## Every step -/

theorem exec_cfg {i : Instr} {s t : State} (h : exec i s = .next t) : t.cfg = s.cfg := by
  obtain ⟨_, _, hcfg, _⟩ := (nextKeeps_exec i s).kept t h
  exact hcfg

theorem execUnlistedWord_cfg {c : Cond} {s t : State} (h : execUnlistedWord c s = .next t) : t.cfg = s.cfg := by
  have hkeeps : NextKeeps False [] s (execUnlistedWord c s) := .armExec (nextKeeps_raiseUndefined _ _ False.elim)
  obtain ⟨_, _, hcfg, _⟩ := hkeeps.kept t h
  exact hcfg

theorem addCycles_cfg {n : Nat} {r : Result} {s t : State} (hr : ∀ u, r = .next u → u.cfg = s.cfg) (h : addCycles n r = .next t) :
    t.cfg = s.cfg := by
  obtain ⟨u, hu, rfl⟩ := (addCycles_eq_next n r t).mp h
  exact hr u hu

theorem fetchExec_cfg {s t : State} (h : fetchExec s = .next t) : t.cfg = s.cfg := by
  have hfetch : (fetch s).2.cfg = s.cfg := memRead_cfg ..
  simp only [fetchExec] at h
  split at h
  · exact (addCycles_cfg (fun _ => exec_cfg) h).trans hfetch
  · exact (addCycles_cfg (fun _ => execUnlistedWord_cfg) h).trans hfetch

theorem cpuStep_cfg {s t : State} (h : cpuStep s = .next t) : t.cfg = s.cfg := by
  simp only [cpuStep] at h
  split at h
  · cases h; simp [raiseIrq]
  · exact (fetchExec_cfg h).trans (beginStep_cfg s)

theorem OnlyDma.cfg_eq {s t : State} (h : OnlyDma s t) : t.cfg = s.cfg := by
  obtain ⟨_, _, _, _, _, _, rfl, _⟩ := h; rfl

theorem turn_cfg {s t : State} (h : turn s = .next t) : t.cfg = s.cfg := by
  obtain ⟨u, hu, hfinish⟩ := (andThen_eq_next _ _ t).mp h
  cases hfinish
  exact (finishTurn_only u).cfg_eq.trans (cpuStep_cfg hu)

/-- Of the host's calls only `load_cartridge` changes the configuration (60_exceptions.md R596). -/
theorem hostCall_cfg {c : HostCall} {s t : State} (hc : ∀ image, c ≠ .loadCartridge image) (h : hostCall c s = .next t) :
    t.cfg = s.cfg := by
  cases c with
  | cpuStep => exact cpuStep_cfg h
  | timersAdvance n => cases h; exact (timersAdvance_only n _).onlyDma.cfg_eq
  | dmaAdvance => cases h; exact (dmaAdvance_only _).cfg_eq
  | loadCartridge image => exact absurd rfl (hc image)
  | signalVblankStart | signalHblankStart | signalDmaSpecial | irqRaise | hostSetDisplay | reset => cases h; rfl

theorem step_cfg {s t : State} (hs : ∀ image rest, s.inputs ≠ .loadCartridge image :: rest) (h : step s = .next t) :
    t.cfg = s.cfg := by
  unfold step at h
  split at h
  next => exact turn_cfg h
  next c rest hin => exact hostCall_cfg (s := { s with inputs := rest }) (fun image hc => hs image rest (hc ▸ hin)) h

/-- Settles O50: what each instruction keeps, by the body it shares with others, and what a step adds around it. -/
theorem systemFrame : Obligations.SystemFrame := by
  unfold Obligations.SystemFrame
  refine ⟨fun i s t h => ?_, fun s t => step_cfg⟩
  obtain ⟨hsaved, hdev, hcfg, hin⟩ := (nextKeeps_exec i s).kept t h
  exact ⟨fun hstatus hmsr => hsaved ⟨hstatus, hmsr⟩, hdev, hcfg, hin⟩

end Sys2Proof.Machine
end

section
/-! SUPPORT. O14 (spec/10_state.md R22 to R24): the views of two modes meet exactly where they share a physical register. -/

namespace Sys2Proof.Machine

open Sys2Proof.Claims

/-- The number under which every mode that sees a physical register names it (10_state.md R24). -/
def registerNumber (k : Fin 30) : Reg :=
  BitVec.ofNat 4 (if k.val < 13 then k.val else if k.val < 18 then k.val - 5 else 13 + k.val % 2)

theorem registerNumber_of_physIndex : ∀ (m : Mode) (i : Reg) (k : Fin 30), physIndex m i = some k → registerNumber k = i := by
  intro m
  cases m <;> decide

/-- Two numbers that name one physical register, each in a mode of its own, are equal. -/
theorem eq_of_physIndex_eq {m m' : Mode} {i j : Reg} (hi : i ≠ 15#4) (h : physIndex m i = physIndex m' j) : i = j := by
  obtain ⟨k, hk⟩ := Option.ne_none_iff_exists'.mp (fun e => hi ((physIndex_eq_none m i).mp e))
  exact (registerNumber_of_physIndex m i k hk).symm.trans (registerNumber_of_physIndex m' j k (h ▸ hk))

/-- Two modes see one physical register under a number exactly where the spec's banks agree. -/
theorem physIndex_eq_iff_shares (m m' : Mode) : ∀ i : Reg, i ≠ 15#4 → (physIndex m i = physIndex m' i ↔ sharesRegister m m' i) := by
  unfold sharesRegister
  cases m <;> cases m' <;> decide

theorem physIndex_eq_iff {m m' : Mode} {i j : Reg} (hi : i ≠ 15#4) :
    physIndex m i = physIndex m' j ↔ i = j ∧ sharesRegister m m' i := by
  constructor
  · intro h
    obtain rfl := eq_of_physIndex_eq hi h
    exact ⟨rfl, (physIndex_eq_iff_shares m m' i hi).mp h⟩
  · rintro ⟨rfl, hs⟩
    exact (physIndex_eq_iff_shares m m' i hi).mpr hs

/-- Settles O14: a read after a write meets it where the two numbers name one physical register, which is where the banks agree. -/
theorem bankedView : Obligations.BankedView := by
  unfold Obligations.BankedView
  refine ⟨fun m m' i j v s hi hj => ?_, fun i v s => ⟨rfl, rfl, rfl, rfl⟩⟩
  rw [xIn_setXIn m m' i j v s hi hj, ← physIndex_eq_iff hi]
  exact ⟨fun h => if_pos h, fun h => if_neg h⟩

end Sys2Proof.Machine
end

section
/-! SUPPORT. What the loads, the runs of words and the lists of register writes leave of the status words. -/

namespace Sys2Proof.Machine

theorem IsLoad.cpsr_eq {n : Width} {load : Word → State → Word × State} (hl : IsLoad n load) (a : Word) (s : State) :
    (load a s).2.cpsr = s.cpsr := by
  obtain ⟨c, d, h⟩ := hl a s
  rw [h]

@[simp] theorem readWords_cpsr (k : Nat) (a : Word) (s : State) : (readWords k a s).2.cpsr = s.cpsr := by
  obtain ⟨c, b, d, h⟩ := readWords_state k a s
  rw [h]

@[simp] theorem readWords_spsr (k : Nat) (a : Word) (s : State) : (readWords k a s).2.spsr = s.spsr := by
  obtain ⟨c, b, d, h⟩ := readWords_state k a s
  rw [h]

@[simp] theorem setRegs_cpsr (m : Mode) (l : List (Reg × Word)) (s : State) : (setRegs m l s).cpsr = s.cpsr := by
  obtain ⟨r, h⟩ := setRegs_state m l s
  rw [h]

@[simp] theorem setRegs_spsr (m : Mode) (l : List (Reg × Word)) (s : State) : (setRegs m l s).spsr = s.spsr := by
  obtain ⟨r, h⟩ := setRegs_state m l s
  rw [h]

@[simp] theorem writeWords_cpsr (vs : List Word) (a : Word) (s : State) : (writeWords vs a s).cpsr = s.cpsr := by
  obtain ⟨c, b, m, d, o, h⟩ := writeWords_state vs a s
  rw [h]

@[simp] theorem writeBack_cpsr (rn : Reg) (d : Address) (s : State) : (writeBack rn d s).cpsr = s.cpsr := by
  unfold writeBack; split <;> simp

end Sys2Proof.Machine
end

section
/-! SUPPORT. O18, O19 (spec/10_state.md R30, R31, spec/93_implementation_defined.md U3, U4): the instructions that copy or write a status
word, reduced to the copy or the write, and where those two stop. -/

namespace Sys2Proof.Machine

open Sys2Proof.Claims

/-! ## The copy of an SPSR -/

theorem restoreCpsr_of_absent {s : State} (h : s.curSpsr = none) : restoreCpsr s = .refused .noSpsr := by
  simp only [restoreCpsr, h]

theorem restoreCpsr_of_illegal {s : State} {q : Psr} (h : s.curSpsr = some q) (hq : cpsrOfPsr q = none) :
    restoreCpsr s = .fault .illegalMode := by
  simp only [restoreCpsr, h, hq]

/-- A number that is in no row of the table of modes names no mode (10_state.md R23). -/
theorem modeOfBits_eq_none {b : BitVec 5} (h : ∀ m : Mode, (m, b) ∉ modeNumbers) : modeOfBits b = none := by
  have hrow : ∀ (m : Mode) (b : BitVec 5), modeOfBits b = some m → (m, b) ∈ modeNumbers := by
    intro m
    cases m <;> decide
  exact Option.eq_none_iff_forall_ne_some.mpr fun m hm => h m (hrow m b hm)

theorem cpsrOfPsr_eq_none {q : Psr} (h : ∀ m : Mode, (m, q.m) ∉ modeNumbers) : cpsrOfPsr q = none := by
  simp only [cpsrOfPsr, modeOfBits_eq_none h]

theorem spsrOf_eq_none {m : Mode} (h : m = .user ∨ m = .sys) (f : SpsrFile) : spsrOf m f = none := by
  obtain rfl | rfl := h <;> rfl

/-! ## The instructions that make the copy -/

/-- A result that copies the SPSR of `s` into the status word first: it stops wherever the copy does. -/
def CopiesSpsr (s : State) (r : Result) : Prop :=
  ∃ u f, u.cpsr = s.cpsr ∧ u.spsr = s.spsr ∧ r = andThen (restoreCpsr u) f

theorem CopiesSpsr.absent {s : State} {r : Result} (h : CopiesSpsr s r) (hs : spsrOf s.cpsr.mode s.spsr = none) :
    r = .refused .noSpsr := by
  obtain ⟨u, f, hcpsr, hspsr, rfl⟩ := h
  rw [restoreCpsr_of_absent (by rw [State.curSpsr, hcpsr, hspsr, hs])]; rfl

theorem CopiesSpsr.illegal {s : State} {r : Result} {q : Psr} (h : CopiesSpsr s r) (hs : spsrOf s.cpsr.mode s.spsr = some q)
    (hq : ∀ m : Mode, (m, q.m) ∉ modeNumbers) : r = .fault .illegalMode := by
  obtain ⟨u, f, hcpsr, hspsr, rfl⟩ := h
  rw [restoreCpsr_of_illegal (q := q) (by rw [State.curSpsr, hcpsr, hspsr, hs]) (cpsrOfPsr_eq_none hq)]; rfl

/-- Every data-processing row with a destination is one operation of the ALU; MOV and MVN name no first operand. -/
theorem exec_dpInstr (k : DpOp) (c : Cond) (sf : Bool) (rn rd : Reg) (o : Operand2) (s : State) :
    ∃ f rn', exec (k.instr c sf rn rd o) s = dpWrite f c sf rn' rd o s := by
  cases k <;> cases o <;> exact ⟨_, _, rfl⟩

theorem copiesSpsr_dpInstr (k : DpOp) (c : Cond) (rn : Reg) (o : Operand2) (s : State) (hc : condHolds c s.cpsr = true) :
    CopiesSpsr s (exec (k.instr c true rn 15#4 o) s) := by
  obtain ⟨f, rn', h⟩ := exec_dpInstr k c true rn 15#4 o s
  rw [h, dpWrite, armExec_pass c _ s hc]
  exact ⟨{ s with pc := s.pc + 4#32 }, _, rfl, rfl, rfl⟩

theorem copiesSpsr_blockLoad (p u w : Bool) (rn : Reg) (list : BitVec 16) (a : Word) (s : State) (hl : list.getLsbD 15 = true) :
    CopiesSpsr s (blockLoad p u true w rn list a s) := by
  simp only [blockLoad, hl, if_true]
  refine ⟨_, _, ?_, ?_, rfl⟩
  · rw [setRegs_cpsr]; split <;> simp
  · rw [setRegs_spsr]; split <;> simp

theorem copiesSpsr_ldm (c : Cond) (p u w : Bool) (rn : Reg) (list : BitVec 16) (s : State) (hc : condHolds c s.cpsr = true)
    (hl : list.getLsbD 15 = true) : CopiesSpsr s (exec (.ldm c p u true w rn list) s) := by
  change CopiesSpsr s (armExec c (blockLoad p u true w rn list) s)
  rw [armExec_pass c _ s hc]
  exact copiesSpsr_blockLoad p u w rn list s.pc { s with pc := s.pc + 4#32 } hl

/-! ## MSR -/

/-- MSR is one write of a status word, of the value of its operand. -/
theorem exec_msrInstr (o : MsrOperand) (c : Cond) (p : Bool) (fields : BitVec 4) (s : State) (hc : condHolds c s.cpsr = true) :
    exec (o.instr c p fields) s = psrWrite p fields (o.value s) { s with pc := s.pc + 4#32 } := by
  cases o with
  | reg rm =>
    change execMsrReg c p fields rm s = _
    rw [execMsrReg, armExec_pass c _ s hc, xOr_withPc]; rfl
  | imm rot imm8 =>
    change execMsrImm c p fields rot imm8 s = _
    rw [execMsrImm, armExec_pass c _ s hc]; rfl

theorem psrWrite_spsr_of_absent (fields : BitVec 4) (v : Word) {s : State} (h : s.curSpsr = none) :
    psrWrite true fields v s = .refused .noSpsr := by
  simp only [psrWrite, h, if_true]

/-- Field c selects all five mode bits (45_status_transfer.md R281). -/
theorem psrMask_mode : ∀ fields : BitVec 4, fields.getLsbD 0 = true → (psrMask fields).extractLsb' 0 5 = BitVec.allOnes 5 := by decide

/-- With field c selected, the mode field written is that of the value. -/
theorem psrOfWord_merge_mode (fields : BitVec 4) (hf : fields.getLsbD 0 = true) (old v : Word) :
    (psrOfWord ((old &&& ~~~psrMask fields) ||| (v &&& psrMask fields))).m = v.extractLsb' 0 5 := by
  have hmask := psrMask_mode fields hf
  have hnot : (~~~psrMask fields).extractLsb' 0 5 = 0#5 := by
    rw [BitVec.extractLsb'_not_of_lt (by omega), hmask]; rfl
  simp only [psrOfWord, BitVec.extractLsb'_or, BitVec.extractLsb'_and, hmask, hnot, BitVec.and_zero, BitVec.zero_or,
    BitVec.and_allOnes]

theorem psrWrite_cpsr_of_illegal (fields : BitVec 4) (v : Word) {s : State} (hf : fields.getLsbD 0 = true) (hm : s.cpsr.mode ≠ .user)
    (hv : ∀ m : Mode, (m, v.extractLsb' 0 5) ∉ modeNumbers) : psrWrite false fields v s = .fault .illegalMode := by
  have hnone := cpsrOfPsr_eq_none (q := psrOfWord ((cpsrWord s.cpsr &&& ~~~psrMask fields) ||| (v &&& psrMask fields)))
    (by rwa [psrOfWord_merge_mode fields hf])
  simp only [psrWrite, hm, if_false, Bool.false_eq_true, hnone]

/-- Settles O18: each instruction is a read, a write or a copy of an SPSR that User and System mode do not have. -/
theorem spsrAbsentStops : Obligations.SpsrAbsentStops := by
  unfold Obligations.SpsrAbsentStops
  intro c s hc hmode
  have habsent : spsrOf s.cpsr.mode s.spsr = none := spsrOf_eq_none hmode s.spsr
  refine ⟨fun rd => ?_, fun o fields => ?_, fun k rn o => ?_, fun p u w rn list hl => ?_⟩
  · change execMrs c true rd s = _
    rw [execMrs, armExec_pass c _ s hc]
    simp only [State.curSpsr, habsent, if_true]
  · rw [exec_msrInstr o c true fields s hc]
    exact psrWrite_spsr_of_absent fields _ habsent
  · exact (copiesSpsr_dpInstr k c rn o s hc).absent habsent
  · exact (copiesSpsr_ldm c p u w rn list s hc hl).absent habsent

/-- Settles O19: MSR with field c writes the mode field of its value, the two copies that of the SPSR, and neither names a mode. -/
theorem illegalModeStops : Obligations.IllegalModeStops := by
  unfold Obligations.IllegalModeStops
  intro c s hc
  refine ⟨fun o fields hf hm hv => ?_, fun q k rn o hs hq => ?_, fun q p u w rn list hl hs hq => ?_⟩
  · rw [exec_msrInstr o c false fields s hc]
    exact psrWrite_cpsr_of_illegal fields _ hf hm hv
  · exact (copiesSpsr_dpInstr k c rn o s hc).illegal hs hq
  · exact (copiesSpsr_ldm c p u w rn list s hc hl).illegal hs hq

end Sys2Proof.Machine
end

section
/-! SUPPORT. O59, O60 (spec/10_state.md R26, spec/60_exceptions.md R546, R563): the parts of the invariant under every operation on
memory, devices, the program counter and the configuration. -/

namespace Sys2Proof.Machine

open Sys2Proof.Claims

/-- The invariant but for the alignment of the program counter. -/
def State.Consistent (s : State) : Prop :=
  memWf s.mem = true ∧ s.dev.timersOk s.cfg ∧ s.dev.dmaOk ∧ s.cfg.ok = true

theorem State.Inv.consistent {s : State} (h : s.Inv) : s.Consistent := by
  obtain ⟨hmem, _, htimers, hdma, hcfg⟩ := h
  exact ⟨hmem, htimers, hdma, hcfg⟩

theorem State.Consistent.inv {s : State} (h : s.Consistent) (hpc : s.pcAligned) : s.Inv := by
  obtain ⟨hmem, htimers, hdma, hcfg⟩ := h
  exact ⟨hmem, hpc, htimers, hdma, hcfg⟩

theorem State.Consistent.withCycles {s : State} (h : s.Consistent) (n : Nat) : State.Consistent { s with cycles := n } := h

/-! ## What the configuration gives -/

theorem period_pos {c : Cfg} (h : c.ok = true) (sel : BitVec 2) : 1 ≤ (c.period sel).toNat := by
  simp only [Cfg.ok, Bool.and_eq_true, List.all_eq_true, bne_iff_ne] at h
  obtain ⟨⟨_, hpre⟩, _⟩ := h
  have hne : c.period sel ≠ 0#11 := hpre _ (by simp [Cfg.period])
  exact Nat.one_le_iff_ne_zero.mpr fun h0 => hne (BitVec.eq_of_toNat_eq h0)

/-- The entry point and the vectors that rules use are multiples of 4. -/
theorem aligned_of_ok {c : Cfg} (h : c.ok = true) : c.entry.toNat % 4 = 0 ∧ c.vector.undef.toNat % 4 = 0 ∧
    c.vector.swi.toNat % 4 = 0 ∧ c.vector.irq.toNat % 4 = 0 := by
  simp only [Cfg.ok, Cfg.aligned, Bool.and_eq_true, beq_iff_eq] at h
  obtain ⟨⟨⟨_, ⟨⟨hentry, hundef⟩, hswi⟩, hirq⟩, _⟩, _⟩ := h
  exact ⟨hentry, hundef, hswi, hirq⟩

/-! ## The program counter -/

/-- A multiple of 4 is aligned for both instruction sets. -/
theorem pcAligned_of_word {s : State} (h : s.pc.toNat % 4 = 0) : s.pcAligned := by
  simp only [State.pcAligned]; split <;> omega

/-- `branch_to` aligns, whatever the program counter was. -/
theorem pcAligned_branchTo (v : Word) (s : State) : (branchTo v s).pcAligned := by
  have hmask : (branchTo v s).pc = alignDown v (if s.cpsr.t then .half else .word) := by
    rw [branchTo_pc]; split <;> rfl
  rw [State.pcAligned, hmask, alignDown_toNat, branchTo_cpsr]
  split <;> simp only [Width.bytes] <;> omega

/-! ## One timer, one channel -/

/-- Between one cycle and a full prescaler period to go. -/
def Timer.DivOk (cfg : Cfg) (t : Timer) : Prop := 1 ≤ t.div.toNat ∧ t.div.toNat ≤ (t.period cfg).toNat

theorem timersOk_setTimer {cfg : Cfg} {d : Devices} (h : d.timersOk cfg) (n : Fin 4) {t : Timer} (ht : t.DivOk cfg) :
    (setTimer n t d).timersOk cfg := by
  intro m
  by_cases hm : n = m
  · subst hm; rw [setTimer_timers_self]; exact ht
  · rw [setTimer_timers_ne n m t d hm]; exact h m

theorem dmaOk_setDma {d : Devices} (h : d.dmaOk) (n : Fin 4) {c : DmaChannel} (hc : c.active = true → c.enabled = true) :
    (setDma n c d).dmaOk := by
  intro m
  by_cases hm : n = m
  · subst hm; rw [setDma_dma_self]; exact hc
  · rw [setDma_dma_ne n m c d hm]; exact h m

/-! ## Register handlers -/

/-- A write of a control word keeps a timer within its period: the prescaler changes only with a restart (60_exceptions.md R543). -/
theorem timersOk_timerWriteCtrl {cfg : Cfg} {d : Devices} (hcfg : cfg.ok = true) (h : d.timersOk cfg) (n : Fin 4) (v : Half) :
    (timerWriteCtrl cfg n v d).timersOk cfg := by
  refine timersOk_setTimer h n ?_
  simp only [Timer.DivOk, Timer.period]
  split
  · exact ⟨period_pos hcfg _, Nat.le_refl _⟩
  · next hrestart =>
    simp only [Bool.or_eq_true, bne_iff_ne, not_or, not_not] at hrestart
    obtain ⟨_, hsame⟩ := hrestart
    rw [← hsame]; exact h n

theorem timersOk_timerWriteData {cfg : Cfg} {d : Devices} (h : d.timersOk cfg) (n : Fin 4) (v : Half) :
    (timerWriteData n v d).timersOk cfg := timersOk_setTimer h n (h n)

/-- The address and count registers are no part of a channel's control word. -/
theorem dmaOk_dmaWriteReg {d : Devices} (h : d.dmaOk) (ch : Fin 4) (r : DmaReg) (v mask : Half) : (dmaWriteReg ch r v mask d).dmaOk := by
  simp only [dmaWriteReg]
  split
  · exact h
  · cases r <;> exact dmaOk_setDma h ch (h ch)

theorem dmaWriteReg_timers (ch : Fin 4) (r : DmaReg) (v mask : Half) (d : Devices) : (dmaWriteReg ch r v mask d).timers = d.timers := by
  simp only [dmaWriteReg]
  split
  · rfl
  · cases r <;> rfl

/-- A channel is active after a write of its control word only if the word enables it (60_exceptions.md R563). -/
theorem dmaOk_dmaWriteCtrl {d : Devices} (h : d.dmaOk) (ch : Fin 4) (v : Half) : (dmaWriteCtrl ch v d).dmaOk := by
  refine dmaOk_setDma h ch ?_
  have hold := h ch
  simp only [DmaChannel.enabled] at hold ⊢
  cases hv : v.getLsbD 15
  · cases hc : d.dma[ch.val].ctrl.getLsbD 15
    · rw [hc] at hold; exact hold
    · exact id
  · exact fun _ => rfl

/-- What a 16-bit write to the register window keeps of the devices (20_memory.md R87). -/
theorem devicesOk_ioRegWrite {cfg : Cfg} {d : Devices} (hcfg : cfg.ok = true) (htimers : d.timersOk cfg) (hdma : d.dmaOk) (r : IoReg)
    (v : Half) (be : BitVec 2) : (ioRegWrite cfg r v be d).timersOk cfg ∧ (ioRegWrite cfg r v be d).dmaOk := by
  cases r with
  | ie | ifr | dispstat | vcount | ime | other => exact ⟨htimers, hdma⟩
  | timerData n => exact ⟨timersOk_timerWriteData htimers n _, hdma⟩
  | timerCtrl n => exact ⟨timersOk_timerWriteCtrl hcfg htimers n _, hdma⟩
  | dmaReg ch r =>
    refine ⟨?_, dmaOk_dmaWriteReg hdma ch r v _⟩
    simp only [ioRegWrite, Devices.timersOk, dmaWriteReg_timers]
    exact htimers
  | dmaCtrl ch => exact ⟨htimers, dmaOk_dmaWriteCtrl hdma ch _⟩

/-! ## The two memory primitives -/

theorem consistent_ioWrite16 {s : State} (h : s.Consistent) (off : Nat) (v : Half) (be : BitVec 2) :
    (ioWrite16 off v be s).Consistent := by
  obtain ⟨hmem, htimers, hdma, hcfg⟩ := h
  unfold ioWrite16
  split
  · exact ⟨hmem, htimers, hdma, hcfg⟩
  · obtain ⟨htimers', hdma'⟩ := devicesOk_ioRegWrite hcfg htimers hdma (ioRegAt s.cfg.offset off) v be
    exact ⟨hmem, htimers', hdma', hcfg⟩

theorem consistent_ioWrite {s : State} (h : s.Consistent) (off : Nat) (n : Width) (v : Word) : (ioWrite off n v s).Consistent := by
  cases n with
  | byte => exact consistent_ioWrite16 h _ _ _
  | half => exact consistent_ioWrite16 h _ _ _
  | word => exact consistent_ioWrite16 (consistent_ioWrite16 h _ _ _) _ _ _

theorem consistent_memWrite {s : State} (h : s.Consistent) (a : Word) (n : Width) (v : Word) : (memWrite a n v s).Consistent := by
  obtain ⟨hmem, htimers, hdma, hcfg⟩ := h
  by_cases hk : (regionOf s.cfg (alignDown a n)).kind = .window
  · have hio : memWrite a n v s = ioWrite (offsetOf s.cfg (alignDown a n)) n v (noteAccess (alignDown a n) n s) := by
      simp only [memWrite, hk, noteAccess_cfg]
    rw [hio]
    exact consistent_ioWrite (s := noteAccess (alignDown a n) n s) ⟨hmem, htimers, hdma, hcfg⟩ _ n v
  · obtain ⟨hdev, _⟩ := memWrite_dev_of_not_io a n v s hk
    refine ⟨memWf_memWrite a n v s hmem, ?_, ?_, ?_⟩ <;> simpa only [hdev, memWrite_cfg]

theorem consistent_writeWords {s : State} (h : s.Consistent) (vs : List Word) (a : Word) : (writeWords vs a s).Consistent := by
  induction vs generalizing a s with
  | nil => exact h
  | cons v vs ih => exact ih (consistent_memWrite h a .word v) (a + 4#32)

theorem consistent_memRead {s : State} (h : s.Consistent) (a : Word) (n : Width) : (memRead a n s).2.Consistent := by
  obtain ⟨c, d, hread⟩ := memRead_state a n s
  rw [hread]; exact h

/-! ## Timers -/

/-- Ticking moves counters, not the cycles left (60_exceptions.md R545). -/
theorem timersOk_timerTickFuel (fuel : Nat) (n : Fin 4) {s : State} (h : s.dev.timersOk s.cfg) :
    (timerTickFuel fuel n s).dev.timersOk s.cfg := by
  induction fuel generalizing n s with
  | zero => exact h
  | succ fuel ih =>
    have hcount : ∀ c : Half, (setTimer n { s.dev.timers[n.val] with counter := c } s.dev).timersOk s.cfg := fun c =>
      timersOk_setTimer h n (h n)
    simp only [timerTickFuel]
    split
    · exact h
    · split
      · split
        · split
          · split
            · exact ih _ (hcount _)
            · exact hcount _
          · split
            · exact ih _ (hcount _)
            · exact hcount _
        · split <;> exact hcount _
      · exact hcount _

/-- A cycle takes one from the cycles left, and starts a new period where that leaves none (60_exceptions.md R546). -/
theorem timersOk_timerCycle (n : Fin 4) {s : State} (hcfg : s.cfg.ok = true) (h : s.dev.timersOk s.cfg) :
    (timerCycle n s).dev.timersOk s.cfg := by
  simp only [timerCycle]
  split
  · split
    · exact timersOk_timerTickFuel 4 n (timersOk_setTimer h n ⟨period_pos hcfg _, Nat.le_refl _⟩)
    · next hdiv =>
      obtain ⟨hlow, hhigh⟩ := h n
      have hsub : (s.dev.timers[n.val].div - 1#11).toNat = s.dev.timers[n.val].div.toNat - 1 := by bv_omega
      have hpos : (s.dev.timers[n.val].div - 1#11).toNat ≠ 0 := fun h0 => hdiv (BitVec.eq_of_toNat_eq h0)
      refine timersOk_setTimer h n ⟨Nat.one_le_iff_ne_zero.mpr hpos, ?_⟩
      change (s.dev.timers[n.val].div - 1#11).toNat ≤ (s.dev.timers[n.val].period s.cfg).toNat
      omega
  · exact h

/-- What only timers change keeps all but the timers consistent. -/
theorem OnlyTimers.consistent {s t : State} (h : OnlyTimers s t) (hs : s.Consistent) (ht : t.dev.timersOk s.cfg) : t.Consistent := by
  obtain ⟨hmem, _, hdma, hcfg⟩ := hs
  obtain ⟨ts, i, o, rfl⟩ := h
  exact ⟨hmem, ht, hdma, hcfg⟩

theorem consistent_timerCycle {s : State} (h : s.Consistent) (n : Fin 4) : (timerCycle n s).Consistent := by
  have ⟨_, htimers, _, hcfg⟩ := h
  exact (timerCycle_only n s).consistent h (timersOk_timerCycle n hcfg htimers)

theorem consistent_timersAdvance {s : State} (h : s.Consistent) (c : Nat) : (timersAdvance c s).Consistent := by
  induction c generalizing s with
  | zero => exact h
  | succ c ih =>
    exact ih (consistent_timerCycle (consistent_timerCycle (consistent_timerCycle (consistent_timerCycle h 0) 1) 2) 3)

/-! ## DMA -/

/-- A channel replaced by one that is active only if enabled. -/
theorem State.Consistent.setDma {s : State} (h : s.Consistent) (ch : Fin 4) {c : DmaChannel}
    (hc : c.active = true → c.enabled = true) : State.Consistent { s with dev := setDma ch c s.dev } := by
  obtain ⟨hmem, htimers, hdma, hcfg⟩ := h
  exact ⟨hmem, htimers, dmaOk_setDma hdma ch hc, hcfg⟩

theorem consistent_dmaUnit {s : State} (h : s.Consistent) (ch : Fin 4) (u : Width) : (dmaUnit ch u s).Consistent := by
  have hmove := consistent_memWrite (consistent_memRead h s.dev.dma[ch.val].src u)
    (memRead s.dev.dma[ch.val].src u s).2.dev.dma[ch.val].dst u (memRead s.dev.dma[ch.val].src u s).1
  have ⟨_, _, hdma, _⟩ := hmove
  exact hmove.setDma ch (hdma ch)

theorem consistent_dmaUnitsRun {s : State} (h : s.Consistent) (k : Nat) (ch : Fin 4) (u : Width) : (dmaUnitsRun k ch u s).Consistent := by
  induction k generalizing s with
  | zero => exact h
  | succ k ih => exact ih (consistent_dmaUnit h ch u)

/-- A completed channel is not active, so its enable bit may go (60_exceptions.md R567). -/
theorem consistent_dmaComplete {s : State} (h : s.Consistent) (ch : Fin 4) : (dmaComplete ch s).Consistent := by
  simp only [dmaComplete]
  have hdone := h.setDma ch (c := { s.dev.dma[ch.val] with
    active := false
    ctrl := if s.dev.dma[ch.val].repeats && s.dev.dma[ch.val].trigger != 0#2 then s.dev.dma[ch.val].ctrl
      else s.dev.dma[ch.val].ctrl &&& 0x7FFF#16 }) (fun hactive => absurd hactive Bool.false_ne_true)
  split <;> exact hdone

theorem consistent_dmaChannelTurn {s : State} (h : s.Consistent) (ch : Fin 4) : (dmaChannelTurn ch s).Consistent := by
  simp only [dmaChannelTurn]
  split
  · exact (consistent_dmaComplete (consistent_dmaUnitsRun h _ ch _) ch).withCycles _
  · exact h

theorem consistent_dmaAdvance {s : State} (h : s.Consistent) : (dmaAdvance s).Consistent :=
  consistent_dmaChannelTurn (consistent_dmaChannelTurn (consistent_dmaChannelTurn (consistent_dmaChannelTurn
    (h.withCycles 0) 0) 1) 2) 3

theorem consistent_finishTurn {s : State} (h : s.Consistent) : (finishTurn s).Consistent :=
  (consistent_timersAdvance (consistent_dmaAdvance (consistent_timersAdvance h s.cycles)) _).withCycles _

/-- Only an enabled channel is activated (60_exceptions.md R564). -/
theorem dmaOk_dmaActivate {d : Devices} (h : d.dmaOk) (t : BitVec 2) (ch : Fin 4) : (dmaActivate t ch d).dmaOk := by
  simp only [dmaActivate]
  split
  · next hactivate =>
    simp only [Bool.and_eq_true] at hactivate
    obtain ⟨⟨henabled, _⟩, _⟩ := hactivate
    exact dmaOk_setDma h ch fun _ => henabled
  · exact h

theorem dmaActivate_timers (t : BitVec 2) (ch : Fin 4) (d : Devices) : (dmaActivate t ch d).timers = d.timers := by
  simp only [dmaActivate]; split <;> rfl

theorem dmaOk_dmaTrigger {d : Devices} (h : d.dmaOk) (t : BitVec 2) : (dmaTrigger t d).dmaOk :=
  dmaOk_dmaActivate (dmaOk_dmaActivate (dmaOk_dmaActivate (dmaOk_dmaActivate h t 0) t 1) t 2) t 3

theorem dmaTrigger_timers (t : BitVec 2) (d : Devices) : (dmaTrigger t d).timers = d.timers := by
  simp only [dmaTrigger, dmaActivate_timers]

end Sys2Proof.Machine
end

section
/-! SUPPORT. O59 (spec/10_state.md R40): the invariant right after reset, and under the calls of the host that are no `cpu_step()`. -/

namespace Sys2Proof.Machine

open Sys2Proof.Claims

/-- The state right after reset meets the invariant in every configuration the spec admits (10_state.md R40). -/
theorem inv_resetWith {c : Cfg} (h : c.ok = true) : (State.resetWith c).Inv := by
  obtain ⟨hentry, _⟩ := aligned_of_ok h
  have htimers : (Devices.atReset c).timersOk c := by
    intro n
    simp only [Devices.atReset, Vector.getElem_replicate]
    exact ⟨period_pos h _, Nat.le_refl _⟩
  have hdma : (Devices.atReset c).dmaOk := by
    intro ch hactive
    simp only [Devices.atReset, Vector.getElem_replicate] at hactive
    exact absurd hactive Bool.false_ne_true
  exact ⟨rfl, hentry, htimers, hdma, h⟩

/-- Settles O59: the reset state of every admitted configuration, of which the default is one. -/
theorem invariantAtReset : Obligations.InvariantAtReset := by
  unfold Obligations.InvariantAtReset
  exact ⟨fun _ => inv_resetWith, inv_resetWith (by decide)⟩

theorem inv_hostReset {s : State} (h : s.Consistent) : (hostReset s).Inv := by
  obtain ⟨hmem, _, _, hcfg⟩ := h
  obtain ⟨_, hpc, htimers, hdma, _⟩ := inv_resetWith hcfg
  exact ⟨memWf_filter (imageKey s.cfg) _ hmem, hpc, htimers, hdma, hcfg⟩

/-- Loading a cartridge changes the size of its region only, and goes to the entry point (60_exceptions.md R596). -/
theorem inv_loadCartridge {image : List Byte} {s t : State} (h : s.Consistent) (ht : loadCartridge image s = .next t) : t.Inv := by
  obtain ⟨hmem, htimers, hdma, hcfg⟩ := h
  obtain ⟨hentry, _⟩ := aligned_of_ok hcfg
  unfold loadCartridge at ht
  split at ht
  · next hlen =>
    cases ht
    have hmem' := memWf_placeBytes image (s.cfg.regionOfKind .cartImage).base _ (memWf_filter (fun k => !cartKey s.cfg k) _ hmem)
    exact ⟨hmem', pcAligned_of_word hentry, htimers, hdma, setCartLen_ok _ _ hcfg hlen⟩
  · cases ht

/-- Devices with the same timers and consistent channels, as the host's signals leave them (60_exceptions.md R591 to R594). -/
theorem inv_withDev {s : State} (h : s.Inv) {d : Devices} (htimers : d.timers = s.dev.timers) (hdma : d.dmaOk) :
    State.Inv { s with dev := d } := by
  obtain ⟨hmem, hpc, hold, _, hcfg⟩ := h
  refine ⟨hmem, hpc, ?_, hdma, hcfg⟩
  simp only [Devices.timersOk, htimers]
  exact hold

theorem setRequestIf_timers (b : Bool) (k : Fin 16) (d : Devices) : (if b then setRequest k d else d).timers = d.timers := by
  cases b <;> rfl

theorem setRequestIf_dmaOk (b : Bool) (k : Fin 16) {d : Devices} (h : d.dmaOk) : (if b then setRequest k d else d).dmaOk := by
  cases b <;> exact h

end Sys2Proof.Machine
end

section
/-! SUPPORT. O47, O60: what each shared body of the meanings writes of the general registers, and that it keeps the invariant. -/

namespace Sys2Proof.Machine

open Sys2Proof.Claims

/-! ## A change of state -/

/-- Only the listed general registers change; from a state in which `ok` holds the invariant is kept. -/
structure SafeChange (ok : Prop) (ks : List (Option (Fin 30))) (s t : State) : Prop where
  regs : keepsRegs ks s t
  inv : ok → s.Inv → t.Inv

/-- Every next state of a result is such a change. -/
structure SafeResult (ok : Prop) (ks : List (Option (Fin 30))) (s : State) (r : Result) : Prop where
  change : ∀ t, r = .next t → SafeChange ok ks s t

/-- A number that names in a mode one of the listed registers, or the program counter. -/
def MayWrite (ks : List (Option (Fin 30))) (m : Mode) (i : Reg) : Prop := ∀ k, physIndex m i = some k → some k ∈ ks

theorem mayWrite_of_mem {ks : List (Option (Fin 30))} {m : Mode} {i : Reg} (h : physIndex m i ∈ ks) : MayWrite ks m i :=
  fun _ hk => hk ▸ h

theorem mayWrite_head {m : Mode} {i : Reg} {ks : List (Option (Fin 30))} : MayWrite (physIndex m i :: ks) m i :=
  mayWrite_of_mem List.mem_cons_self

theorem mayWrite_second {m : Mode} {i : Reg} {k : Option (Fin 30)} {ks : List (Option (Fin 30))} :
    MayWrite (k :: physIndex m i :: ks) m i :=
  mayWrite_of_mem (by simp)

theorem mayWrite_pc (ks : List (Option (Fin 30))) (m : Mode) : MayWrite ks m 15#4 := fun k hk => by simp [physIndex] at hk

/-- A function of the status word that leaves the mode and the instruction set. -/
def FlagsOnly (f : Cpsr → Cpsr) : Prop := ∀ p, (f p).mode = p.mode ∧ (f p).t = p.t

theorem flagsOnly_setNZ (r : Word) : FlagsOnly (setNZ r) := fun _ => ⟨rfl, rfl⟩
theorem flagsOnly_setNZC (r : Word) (c : Bool) : FlagsOnly (setNZC r c) := fun _ => ⟨rfl, rfl⟩
theorem flagsOnly_setNZCV (o : AddOut) : FlagsOnly (setNZCV o) := fun _ => ⟨rfl, rfl⟩
theorem flagsOnly_setNZ64 (r : BitVec 64) : FlagsOnly (setNZ64 r) := fun _ => ⟨rfl, rfl⟩

theorem flagsOnly_setAluFlags (o : AluOut) : FlagsOnly (setAluFlags o) := by
  intro p
  unfold setAluFlags
  split <;> exact ⟨rfl, rfl⟩

section
variable {ok : Prop} {ks : List (Option (Fin 30))} {s t u : State}

theorem SafeChange.refl (s : State) : SafeChange ok ks s s := ⟨fun _ _ => rfl, fun _ h => h⟩

theorem SafeChange.trans (h : SafeChange ok ks s t) (h' : SafeChange ok ks t u) : SafeChange ok ks s u :=
  ⟨fun k hk => (h'.regs k hk).trans (h.regs k hk), fun hok hs => h'.inv hok (h.inv hok hs)⟩

theorem SafeChange.ite {c : Prop} [Decidable c] (h : SafeChange ok ks s t) (h' : SafeChange ok ks s u) :
    SafeChange ok ks s (if c then t else u) := by split <;> assumption

/-- A change that leaves the registers, the program counter and the instruction set. -/
theorem SafeChange.of_consistent (hregs : t.regs = s.regs) (hpc : t.pc = s.pc) (ht : t.cpsr.t = s.cpsr.t)
    (h : s.Consistent → t.Consistent) : SafeChange ok ks s t := by
  refine ⟨keepsRegs_of_regs ks s t hregs, fun _ hs => (h hs.consistent).inv ?_⟩
  obtain ⟨_, haligned, _⟩ := hs
  rw [State.pcAligned, hpc, ht]; exact haligned

/-- A jump: the program counter is aligned whatever it was. -/
theorem SafeChange.of_aligned (hregs : t.regs = s.regs) (hpc : s.Consistent → t.pcAligned) (h : s.Consistent → t.Consistent) :
    SafeChange ok ks s t :=
  ⟨keepsRegs_of_regs ks s t hregs, fun _ hs => (h hs.consistent).inv (hpc hs.consistent)⟩

theorem safe_setXIn {m : Mode} {i : Reg} {v : Word} {s : State} (hi : MayWrite ks m i) : SafeChange ok ks s (s.setXIn m i v) := by
  refine ⟨(keepsRegs_setXIn m i v s).mono fun k hk => hi k (List.mem_singleton.mp hk).symm, fun _ hs => ?_⟩
  simpa only [State.Inv, State.pcAligned, setXIn_mem, setXIn_pc, setXIn_cpsr, setXIn_dev, setXIn_cfg] using hs

theorem safe_setX {i : Reg} {v : Word} {s : State} (hi : MayWrite ks s.cpsr.mode i) : SafeChange ok ks s (s.setX i v) :=
  safe_setXIn hi

theorem safe_setRegs {m : Mode} {l : List (Reg × Word)} (hl : ∀ p ∈ l, MayWrite ks m p.1) (s : State) :
    SafeChange ok ks s (setRegs m l s) := by
  induction l generalizing s with
  | nil => exact .refl s
  | cons p rest ih =>
    exact (safe_setXIn (hl p List.mem_cons_self)).trans (ih (fun q hq => hl q (List.mem_cons_of_mem p hq)) _)

theorem safe_branchTo (v : Word) (s : State) : SafeChange ok ks s (branchTo v s) :=
  .of_aligned rfl (fun _ => pcAligned_branchTo v s) id

theorem safe_writeReg {d : Reg} {v : Word} {s : State} (hd : MayWrite ks s.cpsr.mode d) : SafeChange ok ks s (writeReg d v s) := by
  unfold writeReg
  exact .ite (safe_branchTo v s) (safe_setX hd)

theorem safe_mapCpsr {f : Cpsr → Cpsr} (hf : FlagsOnly f) (s : State) : SafeChange ok ks s (s.mapCpsr f) :=
  .of_consistent rfl rfl (hf s.cpsr).2 id

/-- Flags, then a register: the mode that names the register is still the same. -/
theorem safe_flagsThenSetX {f : Cpsr → Cpsr} (hf : FlagsOnly f) {i : Reg} {v : Word} {s : State} (hi : MayWrite ks s.cpsr.mode i) :
    SafeChange ok ks s ((s.mapCpsr f).setX i v) :=
  (safe_mapCpsr hf s).trans (safe_setX (by rwa [mapCpsr_cpsr, (hf s.cpsr).1]))

theorem safe_flagsThenWriteReg {f : Cpsr → Cpsr} (hf : FlagsOnly f) {d : Reg} {v : Word} {s : State} (hd : MayWrite ks s.cpsr.mode d) :
    SafeChange ok ks s (writeReg d v (s.mapCpsr f)) :=
  (safe_mapCpsr hf s).trans (safe_writeReg (by rwa [mapCpsr_cpsr, (hf s.cpsr).1]))

theorem safe_branchExchange (v : Word) (s : State) : SafeChange ok ks s (branchExchange v s) :=
  .of_aligned rfl (fun _ => pcAligned_branchTo v _) id

theorem safe_memWrite (a : Word) (n : Width) (v : Word) (s : State) : SafeChange ok ks s (memWrite a n v s) :=
  .of_consistent (by simp) (by simp) (by simp) fun h => consistent_memWrite h a n v

theorem safe_memRead (a : Word) (n : Width) (s : State) : SafeChange ok ks s (memRead a n s).2 :=
  .of_consistent (by simp) (by simp) (by simp) fun h => consistent_memRead h a n

theorem safe_of_isLoad {n : Width} {load : Word → State → Word × State} (hl : IsLoad n load) (a : Word) (s : State) :
    SafeChange ok ks s (load a s).2 := by
  obtain ⟨c, d, h⟩ := hl a s
  rw [h]; exact .of_consistent rfl rfl rfl id

theorem safe_readWords (k : Nat) (a : Word) (s : State) : SafeChange ok ks s (readWords k a s).2 := by
  obtain ⟨c, b, d, h⟩ := readWords_state k a s
  rw [h]; exact .of_consistent rfl rfl rfl id

theorem safe_writeWords (vs : List Word) (a : Word) (s : State) : SafeChange ok ks s (writeWords vs a s) := by
  induction vs generalizing a s with
  | nil => exact .refl s
  | cons v vs ih => exact (safe_memWrite a .word v s).trans (ih (a + 4#32) _)

/-- An exception entry writes r14 of the mode it enters and goes to its vector (60_exceptions.md R500). -/
theorem safe_enterException {m : Mode} {vec : Word} {s : State} (hm : physIndex m 14#4 ∈ ks)
    (hvec : s.cfg.ok = true → vec.toNat % 4 = 0) (ret : Word) : SafeChange ok ks s (enterException m vec ret s) := by
  refine ⟨(keepsRegs_enterException m vec ret s).mono fun k hk => List.mem_singleton.mp hk ▸ hm, fun _ hs => ?_⟩
  obtain ⟨hmem, _, htimers, hdma, hcfg⟩ := hs
  exact State.Consistent.inv (by simpa only [State.Consistent, enterException_mem, enterException_dev, enterException_cfg] using
    ⟨hmem, htimers, hdma, hcfg⟩) (pcAligned_of_word (hvec hcfg))

/-! ## Sequencing -/

theorem SafeResult.next (h : SafeChange ok ks s t) : SafeResult ok ks s (.next t) := ⟨by rintro _ ⟨⟩; exact h⟩

theorem SafeResult.refused (e : Refusal) : SafeResult ok ks s (.refused e) := ⟨fun _ h => by cases h⟩

theorem SafeResult.ite {c : Prop} [Decidable c] {r r' : Result} (h : SafeResult ok ks s r) (h' : SafeResult ok ks s r') :
    SafeResult ok ks s (if c then r else r') := by split <;> assumption

theorem SafeResult.after {r : Result} (h : SafeChange ok ks s t) (h' : SafeResult ok ks t r) : SafeResult ok ks s r :=
  ⟨fun u hu => h.trans (h'.change u hu)⟩

theorem SafeResult.unlisted {body : Word → State → Result} {a : Word} (h : SafeResult ok ks s (body a s)) :
    SafeResult ok ks s (unlistedBody body a s) := ⟨fun t ht => h.change t ((unlistedBody_eq_next body a s t).mp ht).2⟩

/-- Moving the program counter on by a width that keeps it aligned. -/
theorem safe_advance (n : Nat) (hn : ok → s.pcAligned → State.pcAligned { s with pc := s.pc + BitVec.ofNat 32 n }) :
    SafeChange ok ks s { s with pc := s.pc + BitVec.ofNat 32 n } := by
  refine ⟨keepsRegs_of_regs ks s _ rfl, fun hok hs => ?_⟩
  have ⟨_, hpc, _⟩ := hs
  exact State.Consistent.inv hs.consistent (hn hok hpc)

/-- The address after a 32-bit-mode instruction is aligned for either instruction set. -/
theorem safe_armAdvance (s : State) : SafeChange ok ks s { s with pc := s.pc + 4#32 } := by
  refine safe_advance 4 fun _ hpc => ?_
  simp only [State.pcAligned, BitVec.toNat_add, BitVec.toNat_ofNat] at hpc ⊢
  cases ht : s.cpsr.t
  · simp only [ht, Bool.false_eq_true, if_false] at hpc ⊢; omega
  · simp only [ht, if_true] at hpc ⊢; omega

/-- The address after a compressed-mode instruction is aligned in compressed mode. -/
theorem safe_thumbAdvance (s : State) (ht : ok → s.cpsr.t = true) : SafeChange ok ks s { s with pc := s.pc + 2#32 } := by
  refine safe_advance 2 fun hok hpc => ?_
  simp only [State.pcAligned, BitVec.toNat_add, BitVec.toNat_ofNat, ht hok, if_true] at hpc ⊢
  omega

theorem SafeResult.armExec {c : Cond} {body : Word → State → Result}
    (h : SafeResult ok ks { s with pc := s.pc + 4#32 } (body s.pc { s with pc := s.pc + 4#32 })) :
    SafeResult ok ks s (armExec c body s) := by
  by_cases hc : condHolds c s.cpsr = true
  · rw [armExec_pass c body s hc]; exact .after (safe_armAdvance s) h
  · rw [armExec_fail c body s (by simpa using hc)]; exact .next (safe_armAdvance s)

theorem SafeResult.thumbExec {body : Word → State → Result} (ht : ok → s.cpsr.t = true)
    (h : SafeResult ok ks { s with pc := s.pc + 2#32 } (body s.pc { s with pc := s.pc + 2#32 })) :
    SafeResult ok ks s (thumbExec body s) := .after (safe_thumbAdvance s ht) h

/-- The copy of an SPSR may select the other instruction set; the jump that follows it aligns the program counter. -/
theorem safeResult_restoreThen {f : State → State} (hf : ∀ u, ∃ v, f u = branchTo v u) (s : State) :
    SafeResult ok ks s (andThen (restoreCpsr s) fun u => .next (f u)) := by
  constructor
  intro t ht
  obtain ⟨u, hu, hnext⟩ := (andThen_eq_next _ _ t).mp ht
  obtain ⟨p, c, _, _, rfl⟩ := (restoreCpsr_eq_next s u).mp hu
  obtain ⟨v, hv⟩ := hf { s with cpsr := c }
  cases hnext
  rw [hv]
  exact .of_aligned rfl (fun _ => pcAligned_branchTo v _) id

end

end Sys2Proof.Machine
end

section
/-! SUPPORT. O47, O60: the bodies that the meanings share. -/

namespace Sys2Proof.Machine

open Sys2Proof.Claims

section
variable {ok : Prop} {ks : List (Option (Fin 30))}

/-! ## 32-bit mode -/

theorem safeResult_dpFinish {sf : Bool} {rd : Reg} {out : AluOut} {s : State} (hd : MayWrite ks s.cpsr.mode rd) :
    SafeResult ok ks s (dpFinish sf rd out s) := by
  unfold dpFinish
  refine .ite ?_ (.next (safe_writeReg hd))
  split
  · next hpc => subst hpc; exact safeResult_restoreThen (fun u => ⟨out.result, rfl⟩) s
  · exact .next (safe_flagsThenWriteReg (flagsOnly_setAluFlags out) hd)

theorem safeResult_dpWrite {f : AluOp} {c : Cond} {sf : Bool} {rn rd : Reg} {o : Operand2} {s : State}
    (hd : MayWrite ks s.cpsr.mode rd) : SafeResult ok ks s (dpWrite f c sf rn rd o s) :=
  .armExec (safeResult_dpFinish hd)

theorem safeResult_dpCompare (f : AluOp) (c : Cond) (rn : Reg) (o : Operand2) (s : State) :
    SafeResult ok ks s (dpCompare f c rn o s) :=
  .armExec (.next (safe_mapCpsr (flagsOnly_setAluFlags _) _))

theorem safeResult_execMrs {c : Cond} {p : Bool} {rd : Reg} {s : State} (hd : MayWrite ks s.cpsr.mode rd) :
    SafeResult ok ks s (execMrs c p rd s) := by
  unfold execMrs
  refine .armExec (.ite ?_ (.next (safe_writeReg hd)))
  split
  · exact .refused .noSpsr
  · exact .next (safe_writeReg hd)

/-- A write of a status word may select the other instruction set; 32-bit mode's program counter is aligned for both (log 30). -/
theorem safeResult_psrWrite {p : Bool} {fields : BitVec 4} {v : Word} {s : State} (ht : ok → s.cpsr.t = false) :
    SafeResult ok ks s (psrWrite p fields v s) := by
  constructor
  intro t h
  obtain ⟨c, f, rfl, _, _⟩ := psrWrite_state p fields v s t h
  refine ⟨keepsRegs_of_regs ks s _ rfl, fun hok hs => State.Consistent.inv hs.consistent (pcAligned_of_word ?_)⟩
  have ⟨_, hpc, _⟩ := hs
  simpa only [State.pcAligned, ht hok, Bool.false_eq_true, if_false] using hpc

theorem safe_writeBack {rn : Reg} {d : Address} {s : State} (hn : d.wb = true → MayWrite ks s.cpsr.mode rn) :
    SafeChange ok ks s (writeBack rn d s) := by
  unfold writeBack
  split
  · next hwb => exact safe_setX (hn hwb)
  · exact .refl s

theorem safeResult_transferLoad {n : Width} {load : Word → State → Word × State} (hl : IsLoad n load) {rn rd : Reg} {d : Address}
    {s : State} (hd : MayWrite ks s.cpsr.mode rd) (hn : d.wb = true → MayWrite ks s.cpsr.mode rn) :
    SafeResult ok ks s (transferLoad load rn rd d s) := by
  have hmode : (load d.addr s).2.cpsr.mode = s.cpsr.mode := by rw [hl.cpsr_eq]
  refine .next (((safe_of_isLoad hl d.addr s).trans (safe_writeBack ?_)).trans (safe_writeReg ?_))
  · rwa [hmode]
  · rwa [writeBack_cpsr, hmode]

theorem safeResult_transferStore (n : Width) (a : Word) {rn : Reg} (rd : Reg) {d : Address} {s : State}
    (hn : d.wb = true → MayWrite ks s.cpsr.mode rn) : SafeResult ok ks s (transferStore n a rn rd d s) :=
  .next ((safe_memWrite d.addr n _ s).trans (safe_writeBack (by rwa [memWrite_cpsr])))

theorem safeResult_swapBody {n : Width} {load : Word → State → Word × State} (hl : IsLoad n load) {rn rd rm : Reg} {a : Word}
    {s : State} (hd : MayWrite ks s.cpsr.mode rd) : SafeResult ok ks s (swapBody load n rn rd rm a s) :=
  .next (((safe_of_isLoad hl (mulOperand a rn s) s).trans (safe_memWrite _ n _ _)).trans
    (safe_writeReg (by rwa [memWrite_cpsr, hl.cpsr_eq])))

theorem safeResult_mulFinish {sf : Bool} {rd : Reg} {r : Word} {s : State} (hd : MayWrite ks s.cpsr.mode rd) :
    SafeResult ok ks s (mulFinish sf rd r s) := by
  refine .next ?_
  cases sf
  · exact safe_writeReg hd
  · exact safe_flagsThenWriteReg (flagsOnly_setNZ r) hd

theorem safeResult_longMulFinish {sf : Bool} {rdHi rdLo : Reg} {r : BitVec 64} {s : State} (hhi : MayWrite ks s.cpsr.mode rdHi)
    (hlo : MayWrite ks s.cpsr.mode rdLo) : SafeResult ok ks s (longMulFinish sf rdHi rdLo r s) := by
  refine .next ?_
  cases sf
  · exact (safe_writeReg hlo).trans (safe_writeReg (by rwa [writeReg_cpsr]))
  · exact (safe_flagsThenWriteReg (flagsOnly_setNZ64 r) hlo).trans (safe_writeReg (by rwa [writeReg_cpsr]))

/-- The registers of a list that has been paired with values. -/
theorem mayWrite_of_zip {m : Mode} {regs : List Reg} (hr : ∀ i ∈ regs, MayWrite ks m i) (vs : List Word) :
    ∀ p ∈ regs.zip vs, MayWrite ks m p.1 := fun _ hp => hr _ (List.of_mem_zip hp).1

theorem safeResult_blockStore {p u sbit w : Bool} {rn : Reg} {list : BitVec 16} {a : Word} {s : State}
    (hn : w = true → MayWrite ks s.cpsr.mode rn) : SafeResult ok ks s (blockStore p u sbit w rn list a s) := by
  refine .next ?_
  split
  · next hw =>
    exact (safe_writeWords _ _ s).trans (safe_setX (by rw [writeWords_cpsr]; exact hn (Bool.and_eq_true_iff.mp hw).1))
  · exact safe_writeWords _ _ s

/-- The reads of a block load, its writeback and its register writes in the view of User mode or of the current one. -/
theorem safe_loadRegs (k : Nat) (a v : Word) {b user : Bool} {rn : Reg} {l : List (Reg × Word)} {s : State}
    (hn : b = true → MayWrite ks s.cpsr.mode rn) (hl : ∀ p ∈ l, MayWrite ks (if user then .user else s.cpsr.mode) p.1) :
    let s2 := if b then (readWords k a s).2.setX rn v else (readWords k a s).2
    SafeChange ok ks s (setRegs (if user then Mode.user else s2.cpsr.mode) l s2) := by
  intro s2
  have hbase : SafeChange ok ks s s2 ∧ s2.cpsr = s.cpsr := by
    unfold s2
    split
    · next hb => exact ⟨(safe_readWords k a s).trans (safe_setX (by rw [readWords_cpsr]; exact hn hb)), by simp⟩
    · exact ⟨safe_readWords k a s, readWords_cpsr ..⟩
  obtain ⟨hsafe, hcpsr⟩ := hbase
  exact hsafe.trans (safe_setRegs (by rwa [hcpsr]) s2)

theorem safeResult_blockLoad {p u sbit w : Bool} {rn : Reg} {list : BitVec 16} {a : Word} {s : State}
    (hn : w = true → MayWrite ks s.cpsr.mode rn)
    (hl : ∀ i ∈ regList list, MayWrite ks (if sbit && !list.getLsbD 15 then .user else s.cpsr.mode) i) :
    SafeResult ok ks s (blockLoad p u sbit w rn list a s) := by
  have hwb : (w && !list.getLsbD rn.toNat && rn != 15#4) = true → MayWrite ks s.cpsr.mode rn := by
    simp only [Bool.and_eq_true]
    exact fun ⟨⟨hw, _⟩, _⟩ => hn hw
  have hregs := fun k a v vs => safe_loadRegs (ok := ok) k a v hwb (mayWrite_of_zip hl vs)
  exact .ite
    (.ite (.after (hregs ..) (safeResult_restoreThen (fun _ => ⟨_, rfl⟩) _)) (.next ((hregs ..).trans (safe_branchTo _ _))))
    (.next (hregs ..))

/-! ## Traps -/

theorem safeResult_raiseSwi {ret : Word} {s : State} (hk : ks = trapDests s.cfg.swiPolicy .svc) :
    SafeResult ok ks s (raiseSwi ret s) := by
  subst hk
  unfold raiseSwi
  cases hpolicy : s.cfg.swiPolicy with
  | trap => exact .next (safe_enterException List.mem_cons_self (fun hok => have ⟨_, _, hswi, _⟩ := aligned_of_ok hok; hswi) ret)
  | noEffect => exact .next (.refl s)

theorem safeResult_raiseUndefined {ret : Word} {s : State} (hk : ks = trapDests s.cfg.unrecognizedPolicy .und) :
    SafeResult ok ks s (raiseUndefined ret s) := by
  subst hk
  unfold raiseUndefined
  cases hpolicy : s.cfg.unrecognizedPolicy with
  | trap => exact .next (safe_enterException List.mem_cons_self (fun hok => have ⟨_, hundef, _⟩ := aligned_of_ok hok; hundef) ret)
  | noEffect => exact .next (.refl s)

/-! ## Compressed mode -/

theorem safeResult_thumbLoad {n : Width} {load : Word → State → Word × State} (hl : IsLoad n load) {rd : LowReg} {addr : Word}
    {s : State} (hd : MayWrite ks s.cpsr.mode (lo rd)) : SafeResult ok ks s (thumbLoad load rd addr s) :=
  .next ((safe_of_isLoad hl addr s).trans (safe_setX (by rwa [hl.cpsr_eq])))

theorem safeResult_pushBody {r : Bool} {list : BitVec 8} {s : State} (hsp : MayWrite ks s.cpsr.mode 13#4) :
    SafeResult ok ks s (pushBody r list s) :=
  .next ((safe_writeWords _ _ s).trans (safe_setX (by rwa [writeWords_cpsr])))

theorem safeResult_popBody {r : Bool} {list : BitVec 8} {s : State} (hsp : MayWrite ks s.cpsr.mode 13#4)
    (hl : ∀ i ∈ lowRegList list, MayWrite ks s.cpsr.mode i) : SafeResult ok ks s (popBody r list s) := by
  have hlist : ∀ i ∈ lowRegList list ++ (if r then [15#4] else []), MayWrite ks s.cpsr.mode i := by
    intro i hi
    obtain hi | hi := List.mem_append.mp hi
    · exact hl i hi
    · cases r
      · cases hi
      · obtain rfl := List.mem_singleton.mp hi; exact mayWrite_pc ks _
  have hregs : ∀ k a v, SafeChange ok ks s (setRegs ((readWords k a s).2.setX 13#4 v).cpsr.mode
      ((lowRegList list ++ (if r then [15#4] else [])).zip (readWords k a s).1) ((readWords k a s).2.setX 13#4 v)) := by
    intro k a v
    refine ((safe_readWords k a s).trans (safe_setX (by rwa [readWords_cpsr]))).trans (safe_setRegs (mayWrite_of_zip ?_ _) _)
    rwa [setX_cpsr, readWords_cpsr]
  exact .next (.ite ((hregs ..).trans (safe_branchTo _ _)) (hregs ..))

theorem safeResult_stmiaBody {rb : LowReg} {list : BitVec 8} {a : Word} {s : State} (hb : MayWrite ks s.cpsr.mode (lo rb)) :
    SafeResult ok ks s (stmiaBody rb list a s) :=
  .next ((safe_writeWords _ _ s).trans (safe_setX (by rwa [writeWords_cpsr])))

theorem safeResult_ldmiaBody {rb : LowReg} {list : BitVec 8} {s : State} (hb : MayWrite ks s.cpsr.mode (lo rb))
    (hl : ∀ i ∈ lowRegList list, MayWrite ks s.cpsr.mode i) : SafeResult ok ks s (ldmiaBody rb list s) := by
  refine .next ?_
  split
  · exact (safe_readWords _ _ s).trans (safe_setRegs (mayWrite_of_zip (by rwa [readWords_cpsr]) _) _)
  · exact ((safe_readWords _ _ s).trans (safe_setX (by rwa [readWords_cpsr]))).trans
      (safe_setRegs (mayWrite_of_zip (by rwa [setX_cpsr, readWords_cpsr]) _) _)

theorem safeResult_thumbBranchIf (c : Cond) (off : BitVec 9) {s : State} (ht : ok → s.cpsr.t = true) :
    SafeResult ok ks s (thumbBranchIf c off s) :=
  .thumbExec ht (.next (.ite (safe_branchTo _ _) (.refl _)))

end

end Sys2Proof.Machine
end

section
/-! SUPPORT. O47, O60: every instruction writes its destinations only and keeps the invariant, and so does every step. -/

namespace Sys2Proof.Machine

open Sys2Proof.Claims

/-! ## The destinations of a row -/

theorem MayWrite.cons {ks : List (Option (Fin 30))} {m : Mode} {i : Reg} (h : MayWrite ks m i) (k : Option (Fin 30)) :
    MayWrite (k :: ks) m i := fun l hl => List.mem_cons_of_mem k (h l hl)

/-- The base of a transfer, where the transfer writes it back (42_single_transfer.md R230). -/
theorem mayWrite_writtenBack {p w : Bool} {rn : Reg} {s : State} (h : ((!p || w) && rn != 15#4) = true) :
    MayWrite (writtenBack p w rn s) s.cpsr.mode rn := by
  obtain ⟨hwb, _⟩ := Bool.and_eq_true_iff.mp h
  rw [writtenBack, if_pos hwb]
  exact mayWrite_head

theorem mayWrite_listed {m : Mode} {list : BitVec 16} {i : Reg} (hi : i ∈ regList list) : MayWrite (listed m list) m i :=
  mayWrite_of_mem (List.mem_map_of_mem hi)

/-- The base of a block transfer, where the transfer writes it back, before the rest of the destinations. -/
theorem mayWrite_blockBase {w : Bool} {rn : Reg} {m : Mode} (ks : List (Option (Fin 30))) (h : w = true) :
    MayWrite ((if w then [physIndex m rn] else []) ++ ks) m rn := by
  rw [if_pos h]
  exact mayWrite_head

/-- The listed registers of a block load, after the base. -/
theorem mayWrite_blockList {m : Mode} {list : BitVec 16} {i : Reg} (ks : List (Option (Fin 30))) (hi : i ∈ regList list) :
    MayWrite (ks ++ listed m list) m i := fun k hk => List.mem_append_right ks (mayWrite_listed hi k hk)

/-! ## Every instruction -/

/-- What each instruction may change, by the body its row shares with others; the invariant is kept where the instruction belongs to the
instruction set that CPSR.T selects. -/
theorem safeResult_exec (i : Instr) (s : State) : SafeResult (s.cpsr.t = Instr.isThumb i) (Instr.dests i s) s (exec i s) := by
  unfold exec
  cases i with
  | andImm | andShImm | andShReg | eorImm | eorShImm | eorShReg | subImm | subShImm | subShReg | rsbImm | rsbShImm | rsbShReg
  | addImm | addShImm | addShReg | adcImm | adcShImm | adcShReg | sbcImm | sbcShImm | sbcShReg | rscImm | rscShImm | rscShReg
  | orrImm | orrShImm | orrShReg | movImm | movShImm | movShReg | bicImm | bicShImm | bicShReg | mvnImm | mvnShImm | mvnShReg =>
    exact safeResult_dpWrite mayWrite_head
  | tstImm | tstShImm | tstShReg | teqImm | teqShImm | teqShReg | cmpImm | cmpShImm | cmpShReg | cmnImm | cmnShImm | cmnShReg =>
    exact safeResult_dpCompare ..
  | mrs => exact safeResult_execMrs mayWrite_head
  | msrReg | msrImm => exact .armExec (safeResult_psrWrite id)
  | bx => exact .armExec (.next (safe_branchExchange _ _))
  | b => exact .armExec (.next (safe_branchTo _ _))
  | bl => exact .armExec (.next (.trans (safe_setX mayWrite_head) (safe_branchTo _ _)))
  | ldrImm | ldrReg =>
    exact .armExec (safeResult_transferLoad loadWord_isLoad mayWrite_head fun h => (mayWrite_writtenBack h).cons _)
  | ldrbImm | ldrbReg =>
    exact .armExec (safeResult_transferLoad loadByte_isLoad mayWrite_head fun h => (mayWrite_writtenBack h).cons _)
  | ldrhReg | ldrhImm =>
    exact .armExec (.unlisted (safeResult_transferLoad loadHalf_isLoad mayWrite_head fun h => (mayWrite_writtenBack h).cons _))
  | ldrsbReg | ldrsbImm =>
    exact .armExec (.unlisted (safeResult_transferLoad loadSignedByte_isLoad mayWrite_head fun h =>
      (mayWrite_writtenBack h).cons _))
  | ldrshReg | ldrshImm =>
    exact .armExec (.unlisted (safeResult_transferLoad loadSignedHalf_isLoad mayWrite_head fun h =>
      (mayWrite_writtenBack h).cons _))
  | strImm | strReg | strbImm | strbReg => exact .armExec (safeResult_transferStore _ _ _ mayWrite_writtenBack)
  | strhImm | strhReg => exact .armExec (.unlisted (safeResult_transferStore _ _ _ mayWrite_writtenBack))
  | ldm => exact .armExec (safeResult_blockLoad (mayWrite_blockBase _) fun _ => mayWrite_blockList _)
  | stm => exact .armExec (safeResult_blockStore fun hw => mayWrite_of_mem (by simp [Instr.dests, hw]))
  | swp => exact .armExec (.unlisted (safeResult_swapBody loadWord_isLoad mayWrite_head))
  | swpb => exact .armExec (.unlisted (safeResult_swapBody loadByte_isLoad mayWrite_head))
  | mul | mla => exact .armExec (.unlisted (safeResult_mulFinish mayWrite_head))
  | umull | umlal | smull | smlal =>
    exact .armExec (.unlisted (safeResult_longMulFinish mayWrite_head mayWrite_second))
  | swi => exact .armExec (safeResult_raiseSwi rfl)
  | undefArch | undefCopTransfer | undefCopOp | undefDoubleword => exact .armExec (safeResult_raiseUndefined rfl)
  | tLslImm | tLsrImm | tAsrImm | tLsl | tLsr | tAsr | tRor =>
    exact .thumbExec id (.next (safe_flagsThenSetX (flagsOnly_setNZC _ _) mayWrite_head))
  | tAddReg | tSubReg | tAddImm3 | tSubImm3 | tAddImm8 | tSubImm8 | tAdc | tSbc | tNeg =>
    exact .thumbExec id (.next (safe_flagsThenSetX (flagsOnly_setNZCV _) mayWrite_head))
  | tMovImm8 | tAnd | tEor | tOrr | tBic | tMvn =>
    exact .thumbExec id (.next (safe_flagsThenSetX (flagsOnly_setNZ _) mayWrite_head))
  | tMul => exact .thumbExec id (.unlisted (.next (safe_flagsThenSetX (flagsOnly_setNZ _) mayWrite_head)))
  | tCmpImm8 | tCmp | tCmn | tCmpHi => exact .thumbExec id (.next (safe_mapCpsr (flagsOnly_setNZCV _) _))
  | tTst => exact .thumbExec id (.next (safe_mapCpsr (flagsOnly_setNZ _) _))
  | tAddHi | tMovHi => exact .thumbExec id (.next (safe_writeReg mayWrite_head))
  | tAddPc | tAddSp | tAddSpPos | tAddSpNeg | tBlHi => exact .thumbExec id (.next (safe_setX mayWrite_head))
  | tBx => exact .thumbExec id (.next (safe_branchExchange _ _))
  | tB => exact .thumbExec id (.next (safe_branchTo _ _))
  | tBlLo => exact .thumbExec id (.next (.trans (safe_setX mayWrite_head) (safe_branchTo _ _)))
  | tBeq | tBne | tBcs | tBcc | tBmi | tBpl | tBvs | tBvc | tBhi | tBls | tBge | tBlt | tBgt | tBle =>
    exact safeResult_thumbBranchIf _ _ id
  | tLdrPc | tLdrReg | tLdrImm | tLdrSp => exact .thumbExec id (safeResult_thumbLoad loadWord_isLoad mayWrite_head)
  | tLdrbReg | tLdrbImm => exact .thumbExec id (safeResult_thumbLoad loadByte_isLoad mayWrite_head)
  | tLdrhReg | tLdrhImm => exact .thumbExec id (.unlisted (safeResult_thumbLoad loadHalf_isLoad mayWrite_head))
  | tLdsbReg => exact .thumbExec id (.unlisted (safeResult_thumbLoad loadSignedByte_isLoad mayWrite_head))
  | tLdshReg => exact .thumbExec id (.unlisted (safeResult_thumbLoad loadSignedHalf_isLoad mayWrite_head))
  | tStrReg | tStrbReg | tStrImm | tStrbImm | tStrSp => exact .thumbExec id (.next (safe_memWrite ..))
  | tStrhReg | tStrhImm => exact .thumbExec id (.unlisted (.next (safe_memWrite ..)))
  | tPush => exact .thumbExec id (safeResult_pushBody mayWrite_head)
  | tPop => exact .thumbExec id (safeResult_popBody mayWrite_head fun _ hi => (mayWrite_listed hi).cons _)
  | tStmia => exact .thumbExec id (safeResult_stmiaBody mayWrite_head)
  | tLdmia => exact .thumbExec id (safeResult_ldmiaBody mayWrite_head fun _ hi => (mayWrite_listed hi).cons _)
  | tSwi => exact .thumbExec id (safeResult_raiseSwi rfl)
  | tUndefBxH1 | tUndefB1 | tUndefB2 | tUndefB6 | tUndefB8 | tUndefBe | tUndefCond14 | tUndefBlxSuffix =>
    exact .thumbExec id (safeResult_raiseUndefined rfl)

/-- Settles O47: what each shared body writes, at the destinations of each row. -/
theorem registerFrame : Obligations.RegisterFrame := by
  unfold Obligations.RegisterFrame
  exact fun i s t h => ((safeResult_exec i s).change t h).regs

/-! ## The decoder answers in the instruction set it decodes -/

theorem armRows_isThumb : ∀ r ∈ armRows, ∀ w, Instr.isThumb (r.build w) = false := by
  intro r hr w
  fin_cases hr <;> rfl

theorem thumbRows_isThumb : ∀ r ∈ thumbRows, ∀ w, Instr.isThumb (r.build w) = true := by
  intro r hr w
  fin_cases hr <;> rfl

theorem decodeFetched_isThumb {thumb : Bool} {w : Word} {i : Instr} (h : decodeFetched thumb w = some i) :
    Instr.isThumb i = thumb := by
  cases thumb with
  | false =>
    obtain ⟨r, hr, _, rfl⟩ := lookup_eq_some armRows _ i h
    exact armRows_isThumb r hr _
  | true =>
    obtain ⟨r, hr, _, rfl⟩ := lookup_eq_some thumbRows _ i h
    exact thumbRows_isThumb r hr _

/-! ## Every step -/

theorem inv_exec {i : Instr} {s t : State} (hset : s.cpsr.t = Instr.isThumb i) (hs : s.Inv) (h : exec i s = .next t) : t.Inv :=
  ((safeResult_exec i s).change t h).inv hset hs

theorem inv_execUnlistedWord {c : Cond} {s t : State} (hs : s.Inv) (h : execUnlistedWord c s = .next t) : t.Inv := by
  have hsafe : SafeResult True (trapDests s.cfg.unrecognizedPolicy .und) s (execUnlistedWord c s) :=
    .armExec (safeResult_raiseUndefined rfl)
  exact (hsafe.change t h).inv trivial hs

theorem inv_addCycles {n : Nat} {r : Result} {t : State} (hr : ∀ u, r = .next u → u.Inv) (h : addCycles n r = .next t) : t.Inv := by
  obtain ⟨u, hu, rfl⟩ := (addCycles_eq_next n r t).mp h
  exact hr u hu

theorem inv_fetchExec {s t : State} (hs : s.Inv) (h : fetchExec s = .next t) : t.Inv := by
  have hfetch : (fetch s).2.Inv := (safe_memRead (ok := True) (ks := []) ..).inv trivial hs
  have hset : (fetch s).2.cpsr = s.cpsr := memRead_cpsr ..
  simp only [fetchExec] at h
  split at h
  · next i hi => exact inv_addCycles (fun _ => inv_exec (by rw [hset, decodeFetched_isThumb hi]) hfetch) h
  · exact inv_addCycles (fun _ => inv_execUnlistedWord hfetch) h

theorem inv_cpuStep {s t : State} (hs : s.Inv) (h : cpuStep s = .next t) : t.Inv := by
  simp only [cpuStep] at h
  split at h
  · cases h
    have hentry : SafeChange True [physIndex .irq 14#4] (beginStep s) (raiseIrq (beginStep s)) :=
      safe_enterException List.mem_cons_self (fun hok => have ⟨_, _, _, hirq⟩ := aligned_of_ok hok; hirq) _
    exact hentry.inv trivial hs
  · exact inv_fetchExec (s := beginStep s) hs h

/-- The rest of a turn touches no register, status word or program counter. -/
theorem OnlyDma.inv {s t : State} (h : OnlyDma s t) (hs : s.Inv) (ht : t.Consistent) : t.Inv := by
  obtain ⟨_, hpc, _⟩ := hs
  refine ht.inv ?_
  obtain ⟨_, _, _, _, _, _, rfl, _⟩ := h
  exact hpc

theorem inv_turn {s t : State} (hs : s.Inv) (h : turn s = .next t) : t.Inv := by
  obtain ⟨u, hu, hfinish⟩ := (andThen_eq_next _ _ t).mp h
  cases hfinish
  have hcpu := inv_cpuStep hs hu
  exact (finishTurn_only u).inv hcpu (consistent_finishTurn hcpu.consistent)

theorem inv_hostCall {c : HostCall} {s t : State} (hs : s.Inv) (h : hostCall c s = .next t) : t.Inv := by
  have hbegin : (beginStep s).Inv := hs
  have ⟨_, _, _, hdma, _⟩ := hs
  cases c with
  | cpuStep => exact inv_cpuStep hs h
  | timersAdvance n =>
    cases h
    exact (timersAdvance_only n _).onlyDma.inv hbegin (consistent_timersAdvance hbegin.consistent n)
  | dmaAdvance =>
    cases h
    exact (dmaAdvance_only _).inv hbegin (consistent_dmaAdvance hbegin.consistent)
  | signalVblankStart =>
    cases h
    exact inv_withDev hbegin ((dmaTrigger_timers ..).trans (setRequestIf_timers ..)) (dmaOk_dmaTrigger (setRequestIf_dmaOk _ _ hdma) _)
  | signalHblankStart =>
    cases h
    exact inv_withDev hbegin ((dmaTrigger_timers ..).trans (setRequestIf_timers ..)) (dmaOk_dmaTrigger (setRequestIf_dmaOk _ _ hdma) _)
  | signalDmaSpecial ch =>
    cases h
    exact inv_withDev hbegin (dmaActivate_timers ..) (dmaOk_dmaActivate hdma _ ch)
  | irqRaise | hostSetDisplay =>
    cases h
    exact inv_withDev hbegin rfl hdma
  | loadCartridge image => exact inv_loadCartridge hbegin.consistent h
  | reset =>
    cases h
    exact inv_hostReset hs.consistent

/-- Settles O60: an instruction or entry, the rest of the turn, and every call of the host keep the invariant. -/
theorem invariantKept : Obligations.InvariantKept := by
  unfold Obligations.InvariantKept
  intro s t hs h
  unfold step at h
  split at h
  next => exact inv_turn hs h
  next c rest _ => exact inv_hostCall (s := { s with inputs := rest }) hs h

end Sys2Proof.Machine
end

section
/-! SUPPORT. O27, O28 (spec/20_memory.md R72 to R81, R91): the two memory primitives in a store, an image, an UNUSED window and the
register window. -/

namespace Sys2Proof.Machine

open Sys2Proof.Claims

/-! ## The bits of a value -/

/-- Bit `8 * q + r` of a word whose lowest byte is given apart. -/
theorem getLsbD_append_byte {w : Nat} (hi : BitVec w) (lo : Byte) (q r : Nat) (hr : r < 8) :
    (hi ++ lo).getLsbD (8 * q + r) = if q = 0 then lo.getLsbD r else hi.getLsbD (8 * (q - 1) + r) := by
  rw [BitVec.getLsbD_append]
  cases q with
  | zero => simp [hr]
  | succ q => rw [if_neg (by omega), if_neg (by omega)]; congr 1; omega

theorem getLsbD_byte_at (b : Byte) (q r : Nat) (hr : r < 8) : b.getLsbD (8 * q + r) = (decide (q = 0) && b.getLsbD r) := by
  cases q with
  | zero => simp
  | succ q => rw [BitVec.getLsbD_of_ge _ _ (by omega)]; simp

/-- Bit `j` of a loaded value is a bit of the byte `j / 8` places on; above the width it is 0 (20_memory.md R77, R80). -/
theorem loadBytes_getLsbD (m : List Host.Cell) (key : Nat) (n : Width) (j : Nat) :
    (loadBytes m key n).getLsbD j = (decide (j < 8 * n.bytes) && (memGet m (key + j / 8)).getLsbD (j % 8)) := by
  obtain ⟨q, r, hr, rfl⟩ : ∃ q r, r < 8 ∧ j = 8 * q + r := ⟨j / 8, j % 8, Nat.mod_lt j (by decide), (Nat.div_add_mod j 8).symm⟩
  rw [show (8 * q + r) / 8 = q by omega, show (8 * q + r) % 8 = r by omega]
  have hw : (8 * q + r < 8 * n.bytes) ↔ q < n.bytes := by omega
  simp only [hw]
  cases n <;> simp only [loadBytes, Width.bytes, BitVec.getLsbD_setWidth, getLsbD_append_byte _ _ _ r hr, getLsbD_byte_at _ _ r hr]
  · rcases q with _ | q <;> simp; omega
  · rcases q with _ | _ | q <;> simp <;> omega
  · rcases q with _ | _ | _ | _ | q
    case succ.succ.succ.succ => simp [show ¬ q + 1 + 1 + 1 + 1 < 4 by omega]
    all_goals simp

theorem truncTo_getLsbD (v : Word) (n : Width) (j : Nat) :
    (truncTo v n).getLsbD j = (decide (j < 8 * n.bytes) && v.getLsbD j) := by
  by_cases hj : j < 32
  · cases n <;> interval_cases j <;> simp [truncTo, Width.bytes]
  · rw [BitVec.getLsbD_of_ge _ _ (Nat.le_of_not_lt hj), BitVec.getLsbD_of_ge _ _ (Nat.le_of_not_lt hj), Bool.and_false]

/-! ## What an access depends on -/

section
variable {s t : State}

/-- A halfword read of the window depends on the devices, the offsets and the draws, and counts the same draws. -/
theorem ioRead16_congr (off : Nat) (hdev : t.dev = s.dev) (hcfg : t.cfg = s.cfg) (hdraws : t.draws = s.draws) :
    (ioRead16 off t).1 = (ioRead16 off s).1 ∧ (ioRead16 off t).2.draws = (ioRead16 off s).2.draws := by
  unfold ioRead16
  rw [hdev, hcfg, hdraws]
  split
  · exact ⟨rfl, hdraws⟩
  · exact ⟨rfl, rfl⟩

/-- A halfword read of the window changes the state only by counting draws. -/
theorem ioRead16_state (off : Nat) (s : State) : ∃ d, (ioRead16 off s).2 = { s with draws := d } := ioRead_state off .half s

theorem ioRead_congr (off : Nat) (n : Width) (hdev : t.dev = s.dev) (hcfg : t.cfg = s.cfg) (hdraws : t.draws = s.draws) :
    (ioRead off n t).1 = (ioRead off n s).1 := by
  have h16 := fun o => ioRead16_congr (s := s) (t := t) o hdev hcfg hdraws
  cases n with
  | byte => simp only [ioRead, h16]
  | half => simp only [ioRead, h16]
  | word =>
    obtain ⟨d, hd⟩ := ioRead16_state off s
    obtain ⟨e, he⟩ := ioRead16_state off t
    have hupper := ioRead16_congr (s := (ioRead16 off s).2) (t := (ioRead16 off t).2) (off + 2) (by rw [hd, he]; exact hdev)
      (by rw [hd, he]; exact hcfg) (h16 off).2
    simp only [ioRead, h16, hupper]

/-- A read depends on memory, the devices, the configuration and the draws. -/
theorem memRead_congr (a : Word) (n : Width) (hmem : t.mem = s.mem) (hdev : t.dev = s.dev) (hcfg : t.cfg = s.cfg)
    (hdraws : t.draws = s.draws) : (memRead a n t).1 = (memRead a n s).1 := by
  have hio := fun o => ioRead_congr (s := noteAccess (alignDown a n) n s) (t := noteAccess (alignDown a n) n t) o n hdev hcfg hdraws
  simp only [memRead, noteAccess_cfg, noteAccess_mem, noteAccess_draws, hcfg, hmem, hdraws]
  split <;> simp only [hio]

/-- A write to the window depends on the devices, the outputs and the configuration. -/
theorem ioWrite16_congr (off : Nat) (v : Half) (be : BitVec 2) (hdev : t.dev = s.dev) (hout : t.outputs = s.outputs)
    (hcfg : t.cfg = s.cfg) :
    (ioWrite16 off v be t).dev = (ioWrite16 off v be s).dev ∧ (ioWrite16 off v be t).outputs = (ioWrite16 off v be s).outputs := by
  unfold ioWrite16
  rw [hdev, hcfg, hout]
  split <;> exact ⟨rfl, rfl⟩

theorem ioWrite_congr (off : Nat) (n : Width) (v : Word) (hdev : t.dev = s.dev) (hout : t.outputs = s.outputs)
    (hcfg : t.cfg = s.cfg) :
    (ioWrite off n v t).dev = (ioWrite off n v s).dev ∧ (ioWrite off n v t).outputs = (ioWrite off n v s).outputs := by
  cases n with
  | byte | half => exact ioWrite16_congr _ _ _ hdev hout hcfg
  | word =>
    obtain ⟨hd, ho⟩ := ioWrite16_congr off (v.extractLsb' 0 16) 0b11#2 hdev hout hcfg
    refine ioWrite16_congr _ _ _ hd ho ?_
    obtain ⟨_, _, hs⟩ := ioWrite16_state off (v.extractLsb' 0 16) 0b11#2 s
    obtain ⟨_, _, ht⟩ := ioWrite16_state off (v.extractLsb' 0 16) 0b11#2 t
    rw [hs, ht]; exact hcfg

end

/-! ## An access by the kind of its region -/

/-- A read of an UNUSED window is a fresh draw, cut to the width (20_memory.md R74). -/
theorem memRead_of_unused (a : Word) (n : Width) (s : State) (h : (unitRegion s.cfg a n).kind = .unused) :
    (memRead a n s).1 = truncTo (Config.openBus s.draws (alignDown a n) n.bytes) n ∧ (memRead a n s).2.draws = s.draws + 1 := by
  unfold unitRegion at h
  simp [memRead, h]

/-- A read in the register window is the window's own (20_memory.md R80). -/
theorem memRead_of_window (a : Word) (n : Width) (s : State) (h : inWindow s.cfg a n) :
    (memRead a n s).1 = (ioRead (offsetOf s.cfg (alignDown a n)) n s).1 := by
  unfold inWindow unitRegion at h
  simp only [memRead, h, noteAccess_cfg]
  exact ioRead_congr _ n rfl rfl rfl

/-- A write in the register window is the window's own (20_memory.md R81). -/
theorem memWrite_of_window (a : Word) (n : Width) (v : Word) (s : State) (h : inWindow s.cfg a n) :
    (memWrite a n v s).dev = (ioWrite (offsetOf s.cfg (alignDown a n)) n v s).dev ∧
      (memWrite a n v s).outputs = (ioWrite (offsetOf s.cfg (alignDown a n)) n v s).outputs := by
  unfold inWindow unitRegion at h
  simp only [memWrite, h, noteAccess_cfg]
  exact ioWrite_congr _ n v rfl rfl rfl

/-- Addresses of one region whose offsets in the store agree name one byte (20_memory.md R73). -/
theorem byteKey_eq_of_offsetOf_eq {c : Cfg} {x y : Word} (h : regionOf c x = regionOf c y) (hoff : offsetOf c x = offsetOf c y) :
    byteKey c x = byteKey c y := by
  unfold byteKey; rw [h, hoff]

/-- Settles O27, clause by clause from what an access does by the kind of its region. -/
theorem memoryAccess : Obligations.MemoryAccess := by
  unfold Obligations.MemoryAccess
  intro a n v s r off
  refine ⟨fun hbacked j => ?_, memRead_mem a n s, memRead_dev a n s, fun x y => byteKey_eq_of_offsetOf_eq,
    fun hunused => ?_, fun hdropped => ?_, fun hwindow => ?_⟩
  · rw [memRead_value_plain a n s hbacked, loadBytes_getLsbD]; rfl
  · obtain ⟨hvalue, hdraws⟩ := memRead_of_unused a n s hunused
    exact ⟨hdraws, fun j => by rw [hvalue, truncTo_getLsbD]⟩
  · have hkind : r.kind ≠ .byteStore ∧ r.kind ≠ .window := by
      rcases hdropped with hunused | himage
      · exact ⟨hunused.trans_ne (by decide), hunused.trans_ne (by decide)⟩
      · constructor <;> intro hk <;> rw [hk] at himage <;> contradiction
    obtain ⟨hstore, hnotWindow⟩ := hkind
    exact ⟨memWrite_mem_of_not_store a n v s hstore, memWrite_dev_of_not_io a n v s hnotWindow⟩
  · obtain ⟨hdev, hout⟩ := memWrite_of_window a n v s hwindow
    have hstore : r.kind ≠ .byteStore := hwindow.trans_ne (by decide)
    exact ⟨memRead_of_window a n s hwindow, hdev, hout, memWrite_mem_of_not_store a n v s hstore⟩

/-! ## A read after a write -/

/-- A byte of a value, bit by bit. -/
theorem getLsbD_byte (v : Word) (j : Nat) : ((v >>> (8 * (j / 8))).setWidth 8 : Byte).getLsbD (j % 8) = v.getLsbD j := by
  rw [BitVec.getLsbD_setWidth, BitVec.getLsbD_ushiftRight, Nat.div_add_mod, decide_eq_true (Nat.mod_lt j (by decide)), Bool.true_and]

/-- A write to a byte store puts the bytes of the value at the aligned unit (20_memory.md R81). -/
theorem memWrite_bytesAt (a : Word) (n : Width) (v : Word) (s : State) (h : inStore s.cfg a n) :
    bytesAt (memWrite a n v s).mem (unitKey s.cfg a n) v n := by
  intro j hj
  rw [memWrite_mem_of_store a n v s h, memGet_storeBytes, if_pos (by simp only [unitKey]; omega), unitKey, Nat.add_sub_cancel_left]

/-- Where the bytes of a value stand, a load gives the value, cut to the width. -/
theorem loadBytes_of_bytesAt {m : List Host.Cell} {key : Nat} {v : Word} {n : Width} (h : bytesAt m key v n) (j : Nat) :
    (loadBytes m key n).getLsbD j = (decide (j < 8 * n.bytes) && v.getLsbD j) := by
  rw [loadBytes_getLsbD]
  by_cases hj : j < 8 * n.bytes
  · rw [h (j / 8) (by omega), getLsbD_byte]
  · rw [decide_eq_false hj, Bool.false_and, Bool.false_and]

theorem memRead_memWrite (a : Word) (n : Width) (v : Word) (s : State) (h : inStore s.cfg a n) (j : Nat) :
    (memRead a n (memWrite a n v s)).1.getLsbD j = (decide (j < 8 * n.bytes) && v.getLsbD j) := by
  have hbacked : (regionOf (memWrite a n v s).cfg (alignDown a n)).kind.isBacked = true := by
    rw [memWrite_cfg, show (regionOf s.cfg (alignDown a n)).kind = .byteStore from h]; rfl
  rw [memRead_value_plain a n _ hbacked, memWrite_cfg]
  exact loadBytes_of_bytesAt (memWrite_bytesAt a n v s h) j

/-! ## A run of reads -/

theorem wordAt_zero (a : Word) : wordAt a 0 = a := BitVec.add_zero a

theorem wordAt_succ (a : Word) (k : Nat) : wordAt a (k + 1) = wordAt (a + 4#32) k := by
  apply BitVec.eq_of_toNat_eq
  simp only [wordAt, BitVec.toNat_add, BitVec.toNat_ofNat]
  omega

/-- A read of a store or an image gives after another read what it gave before it. -/
theorem memRead_after_memRead (a b : Word) (n m : Width) (s : State) (h : plain s.cfg a n) :
    (memRead a n (memRead b m s).2).1 = (memRead a n s).1 := by
  rw [memRead_value_plain a n s h, memRead_value_plain a n (memRead b m s).2 (by rw [memRead_cfg]; exact h), memRead_mem, memRead_cfg]

/-- A run of reads of stores and images gives the words one after another (20_memory.md R91). -/
theorem readWords_getD (k i : Nat) (a : Word) (s : State) (hi : i < k) (h : ∀ j, j < k → plain s.cfg (wordAt a j) .word) :
    (readWords k a s).1.getD i 0#32 = (memRead (wordAt a i) .word s).1 := by
  induction k generalizing a i s with
  | zero => omega
  | succ k ih =>
    cases i with
    | zero => rw [wordAt_zero]; rfl
    | succ i =>
      have hrest : ∀ j, j < k → plain (memRead a .word s).2.cfg (wordAt (a + 4#32) j) .word := fun j hj => by
        rw [memRead_cfg, ← wordAt_succ]; exact h (j + 1) (by omega)
      calc (readWords (k + 1) a s).1.getD (i + 1) 0#32
          = (readWords k (a + 4#32) (memRead a .word s).2).1.getD i 0#32 := rfl
        _ = (memRead (wordAt (a + 4#32) i) .word (memRead a .word s).2).1 := ih i _ _ (by omega) hrest
        _ = (memRead (wordAt a (i + 1)) .word s).1 := by
          rw [← wordAt_succ]; exact memRead_after_memRead _ a .word .word s (h (i + 1) hi)

/-- Settles O28: the bytes a write leaves, the value they give back, and a run of reads by induction on its length. -/
theorem memoryReadAfterWrite : Obligations.MemoryReadAfterWrite := by
  unfold Obligations.MemoryReadAfterWrite
  refine ⟨fun a n v s h => ?_, fun a k i s => readWords_getD k i a s⟩
  have hnotWindow : (unitRegion s.cfg a n).kind ≠ .window := Eq.trans_ne h (by decide)
  obtain ⟨hdev, _⟩ := memWrite_dev_of_not_io a n v s hnotWindow
  exact ⟨memWrite_bytesAt a n v s h, memWrite_keepsBytes a n v s, hdev, memRead_memWrite a n v s h⟩

end Sys2Proof.Machine
end

section
/-! SUPPORT. O43 (spec/20_memory.md R83, spec/48_thumb_mem_branch.md R350 to R360, spec/49_unlisted_families.md R413 to R417): the
compressed-mode loads are one body, given a load, a destination and an address. -/

namespace Sys2Proof.Machine

open Sys2Proof.Claims

/-! ## What a load gives -/

section
variable (a : Word) (s : State)

theorem loadWord_value (off : BitVec 12) : (loadWord a s).1 = (LoadForm.wordImm off).value a s := by
  simp [loadWord, LoadForm.value]

theorem loadByte_value (off : BitVec 12) : (loadByte a s).1 = (LoadForm.byteImm off).value a s := rfl

theorem loadHalf_value (off : BitVec 8) : (loadHalf a s).1 = (LoadForm.halfImm off).value a s := by
  simp [loadHalf, LoadForm.value]

theorem loadSignedByte_value (off : BitVec 8) : (loadSignedByte a s).1 = (LoadForm.signedByteImm off).value a s := rfl

theorem loadSignedHalf_value (off : BitVec 8) : (loadSignedHalf a s).1 = (LoadForm.signedHalfImm off).value a s := by
  have hodd : a.getLsbD 0 = decide (a.toNat % 2 = 1) := Nat.testBit_zero a.toNat
  simp only [loadSignedHalf, LoadForm.value, hodd, decide_eq_true_eq]
  rfl

end

/-- The value of a load depends on memory, the devices, the configuration and the draws. -/
theorem loadForm_value_congr (f : LoadForm) (a : Word) {s t : State} (hmem : t.mem = s.mem) (hdev : t.dev = s.dev)
    (hcfg : t.cfg = s.cfg) (hdraws : t.draws = s.draws) : f.value a t = f.value a s := by
  have hread := fun n => memRead_congr a n hmem hdev hcfg hdraws
  cases f <;> simp only [LoadForm.value, hread]

/-- The access a load leaves as the last one is at the address forced down (20_memory.md R83). -/
theorem lastAccess_eq (a : Word) (n : Width) : lastAccess a n = some (alignDown a n, n) := by
  rw [lastAccess, ← alignDown_toNat, BitVec.ofNat_toNat, BitVec.setWidth_eq]

/-! ## The ten compressed-mode loads -/

/-- Everything a compressed-mode load's body does: the loaded value goes to its destination. -/
theorem thumbLoad_state {n : Width} {load : Word → State → Word × State} (hl : IsLoad n load) (rd : LowReg) (a : Word) (s : State) :
    ∃ t, thumbLoad load rd a s = .next t ∧ t.x (lo rd) = (load a s).1 ∧ t.pc = s.pc ∧ keepsRegs [s.sees (lo rd)] s t ∧
      t.cpsr = s.cpsr ∧ t.mem = s.mem ∧ keepsSystem s t ∧ t.busLast = lastAccess a n := by
  obtain ⟨c, d, h⟩ := hl a s
  refine ⟨_, rfl, x_setX_same _ _ _ (lo_ne_pc rd), ?_, ?_, ?_, ?_, ?_, ?_⟩
  case refine_2 => simp only [h]; exact keepsRegs_setX (lo rd) _ { s with cycles := c, busLast := some (alignDown a n, n), draws := d }
  case refine_5 => simp [h, keepsSystem]
  all_goals simp [h, lastAccess_eq]

/-- The load of the 32-bit-mode instruction of the same kind. -/
def thumbLoadOf : ThumbLoad → Word → State → Word × State
  | .pc _ | .reg _ _ | .imm _ _ | .sp _ => loadWord
  | .byteReg _ _ | .byteImm _ _ => loadByte
  | .halfReg _ _ | .halfImm _ _ => loadHalf
  | .signedByteReg _ _ => loadSignedByte
  | .signedHalfReg _ _ => loadSignedHalf

theorem thumbLoadOf_isLoad (k : ThumbLoad) : IsLoad k.width (thumbLoadOf k) := by
  cases k with
  | pc | reg | imm | sp => exact loadWord_isLoad
  | byteReg | byteImm => exact loadByte_isLoad
  | halfReg | halfImm => exact loadHalf_isLoad
  | signedByteReg => exact loadSignedByte_isLoad
  | signedHalfReg => exact loadSignedHalf_isLoad

theorem thumbLoadOf_value (k : ThumbLoad) (a q : Word) (s : State) : (thumbLoadOf k a { s with pc := q }).1 = k.value a s := by
  have hpc := fun f => loadForm_value_congr (s := s) (t := { s with pc := q }) f a rfl rfl rfl rfl
  cases k with
  | pc | reg | imm | sp => exact (loadWord_value a _ 0#12).trans (hpc _)
  | byteReg | byteImm => exact (loadByte_value a _ 0#12).trans (hpc _)
  | halfReg | halfImm => exact (loadHalf_value a _ 0#8).trans (hpc _)
  | signedByteReg => exact (loadSignedByte_value a _ 0#8).trans (hpc _)
  | signedHalfReg => exact (loadSignedHalf_value a _ 0#8).trans (hpc _)

/-- A compressed-mode load of a listed family, or under `armv4t`, runs the shared body at its address, with the program counter moved on. -/
theorem exec_thumbLoad (k : ThumbLoad) (rd : LowReg) (s : State) (h : admits s.cfg (k.instr rd)) :
    exec (k.instr rd) s = thumbLoad (thumbLoadOf k) rd (k.address s) { s with pc := s.pc + 2#32 } := by
  cases k with
  | pc => rfl
  | reg | byteReg => simp only [ThumbLoad.instr, exec, execTLdrReg, execTLdrbReg, thumbExec_eq, thumbRegAddress_withPc]; rfl
  | imm | byteImm => simp only [ThumbLoad.instr, exec, execTLdrImm, execTLdrbImm, thumbExec_eq, thumbImmAddress_withPc]; rfl
  | sp => simp only [ThumbLoad.instr, exec, execTLdrSp, thumbExec_eq, sp_withPc]; rfl
  | halfReg | signedByteReg | signedHalfReg =>
    refine (unlistedBody_armv4t _ _ { s with pc := s.pc + 2#32 } (h rfl)).trans ?_
    simp only [thumbRegAddress_withPc]; rfl
  | halfImm =>
    refine (unlistedBody_armv4t _ _ { s with pc := s.pc + 2#32 } (h rfl)).trans ?_
    simp only [thumbImmAddress_withPc]; rfl

/-- Settles O43: the ten loads run one body, whose load gives the value of the 32-bit-mode load of their kind. -/
theorem thumbLoadResult : Obligations.ThumbLoadResult := by
  unfold Obligations.ThumbLoadResult
  intro k rd s h
  obtain ⟨t, hnext, hvalue, hstate⟩ := thumbLoad_state (thumbLoadOf_isLoad k) rd (k.address s) { s with pc := s.pc + 2#32 }
  exact ⟨t, (exec_thumbLoad k rd s h).trans hnext, hvalue.trans (thumbLoadOf_value k _ _ s), hstate⟩

end Sys2Proof.Machine
end

section
/-! SUPPORT. O48 (spec/20_memory.md R81): what each shared body of the meanings leaves of memory, and every instruction by its body. -/

namespace Sys2Proof.Machine

open Sys2Proof.Claims

/-! ## Memory under the shared operations -/

theorem IsLoad.mem_eq {n : Width} {load : Word → State → Word × State} (hl : IsLoad n load) (a : Word) (s : State) :
    (load a s).2.mem = s.mem := by
  obtain ⟨c, d, h⟩ := hl a s
  rw [h]

theorem IsLoad.cfg_eq {n : Width} {load : Word → State → Word × State} (hl : IsLoad n load) (a : Word) (s : State) :
    (load a s).2.cfg = s.cfg := by
  obtain ⟨c, d, h⟩ := hl a s
  rw [h]

@[simp] theorem readWords_mem (k : Nat) (a : Word) (s : State) : (readWords k a s).2.mem = s.mem := by
  obtain ⟨c, b, d, h⟩ := readWords_state k a s
  rw [h]

@[simp] theorem setRegs_mem (m : Mode) (l : List (Reg × Word)) (s : State) : (setRegs m l s).mem = s.mem := by
  obtain ⟨r, h⟩ := setRegs_state m l s
  rw [h]

/-! ## Sequencing -/

theorem keepsBytes_of_mem {ks : List Nat} {s t : State} (h : t.mem = s.mem) : keepsBytes ks s t := fun k _ => by rw [h]

/-- What follows a store without touching memory adds nothing to what it changes. -/
theorem keepsBytes.then_mem {ks : List Nat} {s t u : State} (h : keepsBytes ks s t) (hmem : u.mem = t.mem) : keepsBytes ks s u :=
  fun k hk => by rw [hmem, h k hk]

/-- Every next state of a result has every byte of memory as it was but those listed. -/
structure BytesKept (ks : List Nat) (s : State) (r : Result) : Prop where
  kept : ∀ t, r = .next t → keepsBytes ks s t

section
variable {ks : List Nat} {s t : State} {r r' : Result}

theorem BytesKept.next (h : keepsBytes ks s t) : BytesKept ks s (.next t) := ⟨by rintro _ ⟨⟩; exact h⟩

/-- A body that goes on with memory as it was. -/
theorem BytesKept.same (h : t.mem = s.mem) : BytesKept ks s (.next t) := .next (keepsBytes_of_mem h)

theorem BytesKept.ite {c : Prop} [Decidable c] (h : BytesKept ks s r) (h' : BytesKept ks s r') :
    BytesKept ks s (if c then r else r') := by split <;> assumption

theorem BytesKept.keys_eq {ls : List Nat} (h : BytesKept ls s r) (e : ls = ks) : BytesKept ks s r := e ▸ h

theorem BytesKept.armExec {c : Cond} {body : Word → State → Result}
    (h : BytesKept ks { s with pc := s.pc + 4#32 } (body s.pc { s with pc := s.pc + 4#32 })) :
    BytesKept ks s (armExec c body s) := by
  by_cases hc : condHolds c s.cpsr = true
  · rw [armExec_pass c body s hc]; exact ⟨h.kept⟩
  · rw [armExec_fail c body s (by simpa using hc)]; exact .same rfl

theorem BytesKept.thumbExec {body : Word → State → Result}
    (h : BytesKept ks { s with pc := s.pc + 2#32 } (body s.pc { s with pc := s.pc + 2#32 })) :
    BytesKept ks s (thumbExec body s) := ⟨h.kept⟩

theorem BytesKept.unlisted {body : Word → State → Result} {a : Word} (h : BytesKept ks s (body a s)) :
    BytesKept ks s (unlistedBody body a s) := ⟨fun t ht => h.kept t ((unlistedBody_eq_next body a s t).mp ht).2⟩

/-- The copy of an SPSR, before or after which memory is as it was. -/
theorem BytesKept.restoreThen {f : State → State} (ht : t.mem = s.mem) (hf : ∀ u, (f u).mem = u.mem) :
    BytesKept ks s (andThen (restoreCpsr t) fun u => .next (f u)) := by
  constructor
  intro v hv
  obtain ⟨u, hu, hnext⟩ := (andThen_eq_next _ _ v).mp hv
  obtain ⟨p, c, _, _, rfl⟩ := (restoreCpsr_eq_next t u).mp hu
  cases hnext
  exact keepsBytes_of_mem ((hf _).trans ht)

/-! ## The bodies that store nothing -/

theorem bytesKept_dpFinish (sf : Bool) (rd : Reg) (out : AluOut) (s : State) : BytesKept ks s (dpFinish sf rd out s) :=
  .ite (.ite (.restoreThen rfl fun u => writeReg_mem rd _ u) (.same (by simp))) (.same (by simp))

theorem bytesKept_dpWrite (f : AluOp) (c : Cond) (sf : Bool) (rn rd : Reg) (o : Operand2) (s : State) :
    BytesKept ks s (dpWrite f c sf rn rd o s) := .armExec (bytesKept_dpFinish sf rd _ _)

theorem bytesKept_dpCompare (f : AluOp) (c : Cond) (rn : Reg) (o : Operand2) (s : State) :
    BytesKept ks s (dpCompare f c rn o s) := .armExec (.same rfl)

theorem bytesKept_mulFinish (sf : Bool) (rd : Reg) (v : Word) (s : State) : BytesKept ks s (mulFinish sf rd v s) :=
  .same (by simp [apply_ite State.mem])

theorem bytesKept_longMulFinish (sf : Bool) (rdHi rdLo : Reg) (v : BitVec 64) (s : State) :
    BytesKept ks s (longMulFinish sf rdHi rdLo v s) := .same (by simp [apply_ite State.mem])

theorem bytesKept_execMrs (c : Cond) (p : Bool) (rd : Reg) (s : State) : BytesKept ks s (execMrs c p rd s) := by
  refine .armExec (.ite ?_ (.same (by simp)))
  split
  · exact ⟨fun _ h => by cases h⟩
  · exact .same (by simp)

theorem bytesKept_psrWrite (p : Bool) (fields : BitVec 4) (v : Word) (s : State) : BytesKept ks s (psrWrite p fields v s) := by
  constructor
  intro t ht
  obtain ⟨c, f, rfl, _⟩ := psrWrite_state p fields v s t ht
  exact keepsBytes_of_mem rfl

theorem bytesKept_raiseSwi (ret : Word) (s : State) : BytesKept ks s (raiseSwi ret s) := by
  rw [raiseSwi_eq]; exact .same (by simp [apply_ite State.mem])

theorem bytesKept_raiseUndefined (ret : Word) (s : State) : BytesKept ks s (raiseUndefined ret s) := by
  rw [raiseUndefined_eq]; exact .same (by simp [apply_ite State.mem])

theorem bytesKept_transferLoad {n : Width} {load : Word → State → Word × State} (hl : IsLoad n load) (rn rd : Reg) (d : Address)
    (s : State) : BytesKept ks s (transferLoad load rn rd d s) := by
  obtain ⟨t, ht, _, _, hmem, _⟩ := transferLoad_state n load hl rn rd d s
  rw [ht]; exact .same hmem

theorem bytesKept_blockLoad (p u sbit w : Bool) (rn : Reg) (list : BitVec 16) (a : Word) (s : State) :
    BytesKept ks s (blockLoad p u sbit w rn list a s) :=
  .ite (.ite (.restoreThen (by simp [apply_ite State.mem]) fun _ => rfl) (.same (by simp [apply_ite State.mem])))
    (.same (by simp [apply_ite State.mem]))

theorem bytesKept_thumbLoad {n : Width} {load : Word → State → Word × State} (hl : IsLoad n load) (rd : LowReg) (a : Word)
    (s : State) : BytesKept ks s (thumbLoad load rd a s) := .same (by simp [hl.mem_eq])

theorem bytesKept_popBody (b : Bool) (list : BitVec 8) (s : State) : BytesKept ks s (popBody b list s) :=
  .same (by simp [apply_ite State.mem])

theorem bytesKept_ldmiaBody (rb : LowReg) (list : BitVec 8) (s : State) : BytesKept ks s (ldmiaBody rb list s) :=
  .same (by simp [apply_ite State.mem])

theorem bytesKept_thumbBranchIf (c : Cond) (off : BitVec 9) (s : State) : BytesKept ks s (thumbBranchIf c off s) :=
  .thumbExec (.same (by simp [apply_ite State.mem]))

end

/-! ## The bodies that store -/

/-- The keys of the bytes of a list of stores. -/
def keysOf (cfg : Cfg) (ws : List (Word × Width)) : List Nat := ws.flatMap (fun q => storeKeys cfg q.1 q.2)

theorem keysOf_single (cfg : Cfg) (a : Word) (n : Width) : keysOf cfg [(a, n)] = storeKeys cfg a n := by simp [keysOf]

theorem bytesKept_transferStore (n : Width) (a : Word) (rn rd : Reg) (d : Address) (s : State) :
    BytesKept (keysOf s.cfg [(d.addr, n)]) s (transferStore n a rn rd d s) := by
  obtain ⟨t, ht, _, _, _, _, _, _, hbytes⟩ := transferStore_state n a rn rd d s
  rw [ht, keysOf_single]; exact .next hbytes

theorem bytesKept_swapBody {n : Width} {load : Word → State → Word × State} (hl : IsLoad n load) (rn rd rm : Reg) (a : Word)
    (s : State) : BytesKept (keysOf s.cfg [(mulOperand a rn s, n)]) s (swapBody load n rn rd rm a s) := by
  refine .next (keepsBytes.then_mem (fun k hk => ?_) (writeReg_mem rd _ _))
  rw [keysOf_single] at hk
  rw [memWrite_keepsBytes _ n _ _ k (by rwa [hl.cfg_eq]), hl.mem_eq]

/-- A run of writes of the values of a block store, one per listed register. -/
theorem storeValues_keepsBytes (a : Word) (sbit w : Bool) (rn : Reg) (base final : Word) (s : State) (l : List Reg) (start : Word)
    (u : State) :
    keepsBytes (keysOf u.cfg (wordsFrom l.length start)) u (writeWords (storeValues a sbit w rn base final s true l) start u) := by
  simpa only [keysOf, storeValues_length] using writeWords_keepsBytes (storeValues a sbit w rn base final s true l) start u

theorem bytesKept_blockStore (p u sbit w : Bool) (rn : Reg) (list : BitVec 16) (a : Word) (s : State) :
    BytesKept
      (keysOf s.cfg (wordsFrom (regList list).length (blockAddress (s.xOr (a + s.cfg.armPcAhead) rn) p u (regList list).length).1)) s
      (blockStore p u sbit w rn list a s) :=
  .next ((storeValues_keepsBytes a sbit w rn _ _ s (regList list) _ s).then_mem (by split; exacts [setX_mem .., rfl]))

theorem bytesKept_thumbStore (n : Width) (rd : LowReg) (a : Word) (s : State) :
    BytesKept (keysOf s.cfg [(a, n)]) s (thumbStore n rd a s) := by
  rw [keysOf_single]; exact .next (memWrite_keepsBytes a n _ s)

theorem bytesKept_pushBody (b : Bool) (list : BitVec 8) (s : State) :
    BytesKept (keysOf s.cfg (wordsFrom (pushList b list).length (s.x 13#4 - BitVec.ofNat 32 (4 * (pushList b list).length)))) s
      (pushBody b list s) := by
  have hstores := writeWords_keepsBytes ((pushList b list).map (fun i => s.x i))
    (s.x 13#4 - BitVec.ofNat 32 (4 * (pushList b list).length)) s
  rw [List.length_map] at hstores
  exact .next (hstores.then_mem (setX_mem 13#4 _ _))

theorem bytesKept_stmiaBody (rb : LowReg) (list : BitVec 8) (a : Word) (s : State) :
    BytesKept (keysOf s.cfg (wordsFrom (lowRegList list).length (s.x (lo rb)))) s (stmiaBody rb list a s) :=
  .next ((storeValues_keepsBytes a false true (lo rb) _ _ s (lowRegList list) _ s).then_mem (setX_mem _ _ _))

/-! ## Every instruction -/

/-- What each instruction leaves of memory, by the body its row shares with others. -/
theorem bytesKept_exec (i : Instr) (s : State) : BytesKept (Instr.storedKeys i s) s (exec i s) := by
  change BytesKept (keysOf s.cfg (Instr.stores i s)) s (exec i s)
  unfold exec
  cases i with
  | andImm | andShImm | andShReg | eorImm | eorShImm | eorShReg | subImm | subShImm | subShReg | rsbImm | rsbShImm | rsbShReg
  | addImm | addShImm | addShReg | adcImm | adcShImm | adcShReg | sbcImm | sbcShImm | sbcShReg | rscImm | rscShImm | rscShReg
  | orrImm | orrShImm | orrShReg | movImm | movShImm | movShReg | bicImm | bicShImm | bicShReg | mvnImm | mvnShImm | mvnShReg =>
    exact bytesKept_dpWrite ..
  | tstImm | tstShImm | tstShReg | teqImm | teqShImm | teqShReg | cmpImm | cmpShImm | cmpShReg | cmnImm | cmnShImm | cmnShReg =>
    exact bytesKept_dpCompare ..
  | mrs => exact bytesKept_execMrs ..
  | msrReg | msrImm => exact .armExec (bytesKept_psrWrite ..)
  | bx | b => exact .armExec (.same rfl)
  | bl => exact .armExec (.same (by simp))
  | ldrImm | ldrReg => exact .armExec (bytesKept_transferLoad loadWord_isLoad ..)
  | ldrbImm | ldrbReg => exact .armExec (bytesKept_transferLoad loadByte_isLoad ..)
  | ldrhReg | ldrhImm => exact .armExec (.unlisted (bytesKept_transferLoad loadHalf_isLoad ..))
  | ldrsbReg | ldrsbImm => exact .armExec (.unlisted (bytesKept_transferLoad loadSignedByte_isLoad ..))
  | ldrshReg | ldrshImm => exact .armExec (.unlisted (bytesKept_transferLoad loadSignedHalf_isLoad ..))
  | strImm | strReg | strbImm | strbReg =>
    exact .armExec ((bytesKept_transferStore ..).keys_eq (by simp only [Instr.stores, transferAddress_withPc, shiftedOffset_withPc]))
  | strhImm | strhReg =>
    exact .armExec (.unlisted ((bytesKept_transferStore ..).keys_eq (by simp only [Instr.stores, transferAddress_withPc, xOr_withPc])))
  | ldm => exact .armExec (bytesKept_blockLoad ..)
  | stm => exact .armExec ((bytesKept_blockStore ..).keys_eq (by simp only [Instr.stores, xOr_withPc]))
  | swp =>
    exact .armExec (.unlisted ((bytesKept_swapBody loadWord_isLoad ..).keys_eq (by simp only [Instr.stores, mulOperand, xOr_withPc])))
  | swpb =>
    exact .armExec (.unlisted ((bytesKept_swapBody loadByte_isLoad ..).keys_eq (by simp only [Instr.stores, mulOperand, xOr_withPc])))
  | mul | mla => exact .armExec (.unlisted (bytesKept_mulFinish ..))
  | umull | umlal | smull | smlal => exact .armExec (.unlisted (bytesKept_longMulFinish ..))
  | swi => exact .armExec (bytesKept_raiseSwi ..)
  | undefArch | undefCopTransfer | undefCopOp | undefDoubleword => exact .armExec (bytesKept_raiseUndefined ..)
  | tLslImm | tLsrImm | tAsrImm | tLsl | tLsr | tAsr | tRor | tAddReg | tSubReg | tAddImm3 | tSubImm3 | tAddImm8 | tSubImm8 | tAdc
  | tSbc | tNeg | tMovImm8 | tAnd | tEor | tOrr | tBic | tMvn | tAddPc | tAddSp | tAddSpPos | tAddSpNeg | tBlHi =>
    exact .thumbExec (.same (setX_mem ..))
  | tMul => exact .thumbExec (.unlisted (.same (setX_mem ..)))
  | tCmpImm8 | tCmp | tCmn | tCmpHi | tTst | tBx | tB => exact .thumbExec (.same rfl)
  | tAddHi | tMovHi => exact .thumbExec (.same (writeReg_mem ..))
  | tBlLo => exact .thumbExec (.same (by simp))
  | tBeq | tBne | tBcs | tBcc | tBmi | tBpl | tBvs | tBvc | tBhi | tBls | tBge | tBlt | tBgt | tBle => exact bytesKept_thumbBranchIf ..
  | tLdrPc | tLdrReg | tLdrImm | tLdrSp => exact .thumbExec (bytesKept_thumbLoad loadWord_isLoad ..)
  | tLdrbReg | tLdrbImm => exact .thumbExec (bytesKept_thumbLoad loadByte_isLoad ..)
  | tLdrhReg | tLdrhImm => exact .thumbExec (.unlisted (bytesKept_thumbLoad loadHalf_isLoad ..))
  | tLdsbReg => exact .thumbExec (.unlisted (bytesKept_thumbLoad loadSignedByte_isLoad ..))
  | tLdshReg => exact .thumbExec (.unlisted (bytesKept_thumbLoad loadSignedHalf_isLoad ..))
  | tStrReg | tStrbReg => exact .thumbExec ((bytesKept_thumbStore ..).keys_eq (by simp only [Instr.stores, thumbRegAddress_withPc]))
  | tStrImm | tStrbImm => exact .thumbExec ((bytesKept_thumbStore ..).keys_eq (by simp only [Instr.stores, thumbImmAddress_withPc]))
  | tStrSp => exact .thumbExec ((bytesKept_thumbStore ..).keys_eq (by simp only [Instr.stores, sp_withPc]))
  | tStrhReg => exact .thumbExec (.unlisted ((bytesKept_thumbStore ..).keys_eq (by simp only [Instr.stores, thumbRegAddress_withPc])))
  | tStrhImm => exact .thumbExec (.unlisted ((bytesKept_thumbStore ..).keys_eq (by simp only [Instr.stores, thumbImmAddress_withPc])))
  | tPush => exact .thumbExec ((bytesKept_pushBody ..).keys_eq (by simp only [Instr.stores, sp_withPc]))
  | tPop => exact .thumbExec (bytesKept_popBody ..)
  | tStmia => exact .thumbExec ((bytesKept_stmiaBody ..).keys_eq (by simp only [Instr.stores, low_withPc]))
  | tLdmia => exact .thumbExec (bytesKept_ldmiaBody ..)
  | tSwi => exact .thumbExec (bytesKept_raiseSwi ..)
  | tUndefBxH1 | tUndefB1 | tUndefB2 | tUndefB6 | tUndefB8 | tUndefBe | tUndefCond14 | tUndefBlxSuffix =>
    exact .thumbExec (bytesKept_raiseUndefined ..)

/-- Settles O48: each instruction by its body, whose stores are at the addresses of the instruction's own table. -/
theorem memoryFrame : Obligations.MemoryFrame := by
  unfold Obligations.MemoryFrame
  exact fun i s => (bytesKept_exec i s).kept

end Sys2Proof.Machine
end

section
/-! SUPPORT. O56 (spec/20_memory.md R86): which offset of the register window names which register. -/

namespace Sys2Proof.Machine

open Sys2Proof.Claims

/-! ## The blocks of an ok table of offsets -/

/-- The offsets of the five registers that stand alone. -/
def fixedOffsets (o : Offsets) : List Nat := [o.ie, o.ifr, o.dispstat, o.vcount, o.ime]

/-- Two blocks of sizes `j` and `k` have no offset in common. -/
def BlocksApart (j k a b : Nat) : Prop := a + j ≤ b ∨ b + k ≤ a

/-- "The listed ranges disjoint" (20_memory.md R86), by the kinds of block. -/
structure OffsetsApart (o : Offsets) : Prop where
  fixed : (fixedOffsets o).Pairwise (BlocksApart 2 2)
  timers : ∀ m n : Fin 4, m ≠ n → BlocksApart 4 4 o.timer[m.val] o.timer[n.val]
  channels : ∀ c d : Fin 4, c ≠ d → BlocksApart 12 12 o.dma[c.val] o.dma[d.val]
  fixed_timer : ∀ a ∈ fixedOffsets o, ∀ n : Fin 4, BlocksApart 2 4 a o.timer[n.val]
  fixed_channel : ∀ a ∈ fixedOffsets o, ∀ c : Fin 4, BlocksApart 2 12 a o.dma[c.val]
  timer_channel : ∀ n c : Fin 4, BlocksApart 4 12 o.timer[n.val] o.dma[c.val]

/-- Blocks of one size that are pairwise apart, by their numbers. -/
theorem blocksApart_of_pairwise {k : Nat} {v : Vector Nat 4} (h : v.toList.Pairwise (BlocksApart k k)) (m n : Fin 4) (hmn : m ≠ n) :
    BlocksApart k k v[m.val] v[n.val] := by
  have hget := List.pairwise_iff_getElem.mp h
  have hlen : v.toList.length = 4 := by simp
  rcases Nat.lt_or_gt_of_ne (fun e => hmn (Fin.ext e)) with hlt | hgt
  · simpa using hget m n (by omega) (by omega) hlt
  · simpa [BlocksApart, or_comm] using hget n m (by omega) (by omega) hgt

theorem offsetsApart_of_ok {o : Offsets} (h : o.ok = true) : OffsetsApart o := by
  simp only [Offsets.ok, Bool.and_eq_true, decide_eq_true_eq] at h
  obtain ⟨_, hapart⟩ := h
  have hfixed : [(o.ie, 2), (o.ifr, 2), (o.dispstat, 2), (o.vcount, 2), (o.ime, 2)] = (fixedOffsets o).map (fun k => (k, 2)) := rfl
  simp only [Offsets.blocks, hfixed, List.pairwise_append, List.pairwise_map, List.mem_append, List.mem_map, or_imp, forall_and,
    forall_exists_index, and_imp, forall_apply_eq_imp_iff₂] at hapart
  obtain ⟨⟨hff, htt, hft⟩, hdd, hfd, htd⟩ := hapart
  have hmem : ∀ (v : Vector Nat 4) (n : Fin 4), v[n.val] ∈ v.toList := fun v n => by simp
  exact ⟨hff, blocksApart_of_pairwise htt, blocksApart_of_pairwise hdd, fun a ha n => hft a ha _ (hmem _ n),
    fun a ha c => hfd a ha _ (hmem _ c), fun n c => htd _ (hmem _ n) _ (hmem _ c)⟩

/-! ## Routing -/

theorem mem_fin_four : ∀ n : Fin 4, n ∈ [(0 : Fin 4), 1, 2, 3] := by decide

/-- Of four blocks, the one that satisfies a test no other does is found. -/
theorem find_fin_four {p : Fin 4 → Bool} {n : Fin 4} (hn : p n = true) (hm : ∀ m, m ≠ n → p m = false) :
    [(0 : Fin 4), 1, 2, 3].find? p = some n := by
  cases hfind : [(0 : Fin 4), 1, 2, 3].find? p with
  | none => exact absurd hn (List.find?_eq_none.mp hfind n (mem_fin_four n))
  | some m =>
    by_cases hmn : m = n
    · rw [hmn]
    · exact absurd (List.find?_some hfind) (by rw [hm m hmn]; decide)

/-- A register that stands alone is at its offset. -/
theorem ioRegAt_fixed {o : Offsets} (h : OffsetsApart o) :
    ioRegAt o o.ie = .ie ∧ ioRegAt o o.ifr = .ifr ∧ ioRegAt o o.dispstat = .dispstat ∧ ioRegAt o o.vcount = .vcount ∧
      ioRegAt o o.ime = .ime := by
  have hne : (fixedOffsets o).Pairwise (fun a b => b ≠ a) := h.fixed.imp fun hab => by unfold BlocksApart at hab; omega
  simp only [fixedOffsets, List.pairwise_cons, List.forall_mem_cons] at hne
  simp [ioRegAt, hne]

/-- The block of a timer: data, then control. -/
theorem ioRegAt_timer {o : Offsets} (h : OffsetsApart o) (n : Fin 4) (k : Nat) (hk : k < 4) :
    ioRegAt o (o.timer[n.val] + k) = if k = 0 then .timerData n else if k = 2 then .timerCtrl n else .other := by
  have hfixed : ∀ a ∈ fixedOffsets o, o.timer[n.val] + k ≠ a := fun a ha => by
    have := h.fixed_timer a ha n; unfold BlocksApart at this; omega
  have hfind : [(0 : Fin 4), 1, 2, 3].find? (fun m => o.timer[m.val] ≤ o.timer[n.val] + k && o.timer[n.val] + k < o.timer[m.val] + 4) =
      some n := by
    refine find_fin_four (by simpa using hk) fun m hm => ?_
    have := h.timers m n hm
    unfold BlocksApart at this
    rw [← Bool.decide_and, decide_eq_false]; omega
  simp only [fixedOffsets, List.forall_mem_cons] at hfixed
  obtain ⟨h1, h2, h3, h4, h5, _⟩ := hfixed
  unfold ioRegAt
  rw [if_neg h1, if_neg h2, if_neg h3, if_neg h4, if_neg h5, hfind]
  simp

/-- The block of a DMA channel. -/
theorem ioRegAt_dma {o : Offsets} (h : OffsetsApart o) (ch : Fin 4) (k : Nat) (hk : k < 12) :
    ioRegAt o (o.dma[ch.val] + k) = dmaRegAt ch k := by
  have hfixed : ∀ a ∈ fixedOffsets o, o.dma[ch.val] + k ≠ a := fun a ha => by
    have := h.fixed_channel a ha ch; unfold BlocksApart at this; omega
  have htimer : [(0 : Fin 4), 1, 2, 3].find? (fun n => o.timer[n.val] ≤ o.dma[ch.val] + k && o.dma[ch.val] + k < o.timer[n.val] + 4) =
      none := by
    refine List.find?_eq_none.mpr fun n _ => ?_
    have := h.timer_channel n ch
    unfold BlocksApart at this
    rw [← Bool.decide_and, decide_eq_true_iff]; omega
  have hfind : [(0 : Fin 4), 1, 2, 3].find? (fun c => o.dma[c.val] ≤ o.dma[ch.val] + k && o.dma[ch.val] + k < o.dma[c.val] + 12) =
      some ch := by
    refine find_fin_four (by simpa using hk) fun c hc => ?_
    have := h.channels c ch hc
    unfold BlocksApart at this
    rw [← Bool.decide_and, decide_eq_false]; omega
  simp only [fixedOffsets, List.forall_mem_cons] at hfixed
  obtain ⟨h1, h2, h3, h4, h5, _⟩ := hfixed
  unfold ioRegAt
  rw [if_neg h1, if_neg h2, if_neg h3, if_neg h4, if_neg h5, htimer, hfind]
  simp

/-- Each offset of the table of 20_memory.md R86 names its register. -/
theorem ioRegAt_of_mem_windowMap {o : Offsets} (h : OffsetsApart o) : ∀ p ∈ windowMap o, ioRegAt o p.1 = p.2.1 := by
  obtain ⟨hie, hifr, hdispstat, hvcount, hime⟩ := ioRegAt_fixed h
  simp only [windowMap, List.forall_mem_append, List.forall_mem_flatMap, List.forall_mem_cons, List.not_mem_nil,
    false_imp_iff, implies_true, and_true]
  refine ⟨⟨⟨hie, hifr, hdispstat, hvcount, hime⟩, fun n _ => ?_⟩, fun ch _ => ?_⟩
  · exact ⟨ioRegAt_timer h n 0 (by decide), ioRegAt_timer h n 2 (by decide)⟩
  · have hdma := fun k hk => ioRegAt_dma h ch k hk
    exact ⟨hdma 0 (by decide), hdma 2 (by decide), hdma 4 (by decide), hdma 6 (by decide), hdma 8 (by decide), hdma 10 (by decide)⟩

theorem extractLsb'_high (w : Word) : w.extractLsb' 16 16 = BitVec.ofNat 16 (w.toNat / 2 ^ 16) :=
  BitVec.eq_of_toNat_eq (by simp [Nat.shiftRight_eq_div_pow])

/-- Each register of the table of 20_memory.md R86 reads as its value there. -/
theorem ioRegValue_of_mem_windowMap (o : Offsets) (d : Devices) : ∀ p ∈ windowMap o, ioRegValue d p.2.1 = some (p.2.2 d) := by
  simp only [windowMap, List.forall_mem_append, List.forall_mem_flatMap, List.forall_mem_cons, List.not_mem_nil,
    false_imp_iff, implies_true, and_true]
  refine ⟨⟨⟨rfl, rfl, rfl, rfl, rfl⟩, fun n _ => ⟨rfl, rfl⟩⟩, fun ch _ => ⟨rfl, ?_, rfl, ?_, rfl, rfl⟩⟩
  · exact congrArg some (extractLsb'_high _)
  · exact congrArg some (extractLsb'_high _)

/-- An offset outside the table names no register. -/
theorem ioRegAt_of_not_mem_windowMap {o : Offsets} {off : Nat} (h : ∀ p ∈ windowMap o, p.1 ≠ off) : ioRegAt o off = .other := by
  simp only [windowMap, List.forall_mem_append, List.forall_mem_flatMap, List.forall_mem_cons, List.not_mem_nil,
    false_imp_iff, implies_true, and_true] at h
  obtain ⟨⟨⟨h1, h2, h3, h4, h5⟩, htimer⟩, hdma⟩ := h
  unfold ioRegAt
  rw [if_neg h1.symm, if_neg h2.symm, if_neg h3.symm, if_neg h4.symm, if_neg h5.symm]
  split
  · next n _ =>
    obtain ⟨hdata, hctrl⟩ := htimer n (List.mem_finRange n)
    rw [if_neg hdata.symm, if_neg hctrl.symm]
  · split
    · next ch hfind =>
      obtain ⟨hsrcLo, hsrcHi, hdstLo, hdstHi, hcount, hctrl⟩ := hdma ch (List.mem_finRange ch)
      have hin := List.find?_some hfind
      rw [Bool.and_eq_true, decide_eq_true_iff] at hin
      obtain ⟨hle, _⟩ := hin
      unfold dmaRegAt
      split
      case h_7 => rfl
      all_goals omega
    · rfl

end Sys2Proof.Machine
end

section
/-! SUPPORT. O56 (spec/20_memory.md R85 to R87): accesses of the register window by halfword, byte and word. -/

namespace Sys2Proof.Machine

open Sys2Proof.Claims

/-! ## Masked writes -/

@[simp] theorem byteMask_full : byteMask 0b11#2 = 0xFFFF#16 := by decide

theorem and_full (v : Half) : v &&& 0xFFFF#16 = v := BitVec.and_allOnes

@[simp] theorem merge_full (v old : Half) : merge 0xFFFF#16 v old = v := by
  ext i hi
  interval_cases i <;> simp [merge]

/-- The byte mask of the byte an offset names. -/
theorem byteMask_lane (off : Nat) : byteMask (0b01#2 <<< (off % 2)) = if off % 2 = 1 then 0xFF00#16 else 0x00FF#16 := by
  rcases Nat.mod_two_eq_zero_or_one off with h | h <;> rw [h] <;> decide

theorem byteEnable_lane (off : Nat) : 0b01#2 <<< (off % 2) = if off % 2 = 1 then 0b10#2 else 0b01#2 := by
  rcases Nat.mod_two_eq_zero_or_one off with h | h <;> rw [h] <;> decide

/-- The halfword a byte write hands to the window: the byte at its place. -/
def laneOf (off : Nat) (v : Word) : Half := (v.extractLsb' 0 8).setWidth 16 <<< (8 * (off % 2))

theorem laneOf_eq (off : Nat) (v : Word) : laneOf off v = (placedByte off v).extractLsb' 0 16 := by
  unfold laneOf placedByte withByte
  rcases Nat.mod_two_eq_zero_or_one off with h | h <;> rw [h] <;> ext i hi <;> interval_cases i <;> simp

theorem laneOf_masked (off : Nat) (v : Word) : laneOf off v &&& byteMask (0b01#2 <<< (off % 2)) = laneOf off v := by
  rw [byteMask_lane]
  unfold laneOf
  rcases Nat.mod_two_eq_zero_or_one off with h | h <;> rw [h] <;> ext i hi <;> interval_cases i <;> simp

/-- A byte write merged into a halfword replaces the byte its offset names. -/
theorem merge_lane (off : Nat) (v : Word) (old : Half) :
    merge (byteMask (0b01#2 <<< (off % 2))) (laneOf off v) old = (withByte off (old.setWidth 32) v).extractLsb' 0 16 := by
  rw [byteMask_lane]
  unfold laneOf withByte merge
  rcases Nat.mod_two_eq_zero_or_one off with h | h <;> rw [h] <;> ext i hi <;> interval_cases i <;> simp

/-- A write with byte enables is the whole write of the merged halfword, for a register that reads back what is written. -/
theorem ioRegWrite_masked {cfg : Cfg} {r : IoReg} {d : Devices} {old : Half} (h : ioRegValue d r = some old) (hifr : r ≠ .ifr)
    (hvcount : r ≠ .vcount) (htimer : ∀ n, r ≠ .timerData n) (v : Half) (be : BitVec 2) :
    ioRegWrite cfg r v be d = ioRegWrite cfg r (merge (byteMask be) v old) 0b11#2 d := by
  cases r with
  | ie | dispstat | ime | timerCtrl | dmaCtrl => cases h; simp only [ioRegWrite, byteMask_full, merge_full]
  | dmaReg ch q =>
    simp only [ioRegWrite, dmaWriteReg, byteMask_full]
    split
    · rfl
    · cases q <;> cases h <;> simp only [merge_full]
  | ifr => exact absurd rfl hifr
  | vcount => exact absurd rfl hvcount
  | timerData n => exact absurd rfl (htimer n)
  | other => cases h

theorem ioRegWrite_timerData_masked (cfg : Cfg) (n : Fin 4) (v : Half) (be : BitVec 2) (d : Devices) :
    ioRegWrite cfg (.timerData n) v be d =
      ioRegWrite cfg (.timerData n) (merge (byteMask be) v d.timers[n.val].reload) 0b11#2 d := by
  simp only [ioRegWrite, byteMask_full, merge_full]

theorem ioRegWrite_ifr_masked (cfg : Cfg) (v : Half) (be : BitVec 2) (d : Devices) :
    ioRegWrite cfg .ifr v be d = ioRegWrite cfg .ifr (v &&& byteMask be) 0b11#2 d := by
  simp only [ioRegWrite, byteMask_full, and_full]

/-! ## A read after a write -/

theorem withLow_low (w : Word) (h : Half) : (withLow w h).extractLsb' 0 16 = h :=
  (BitVec.extractLsb'_append_eq_of_add_le (by decide)).trans BitVec.extractLsb'_eq_self

theorem withHigh_high (w : Word) (h : Half) : (withHigh w h).extractLsb' 16 16 = h :=
  (BitVec.extractLsb'_append_eq_of_le (by decide)).trans BitVec.extractLsb'_eq_self

/-- A register reads back what a halfword write puts there. -/
theorem ioRegValue_ioRegWrite {cfg : Cfg} {r : IoReg} {d : Devices} (hifr : r ≠ .ifr) (hvcount : r ≠ .vcount) (hother : r ≠ .other)
    (hactive : ∀ ch q, r = .dmaReg ch q → (d.dma[ch.val]).active = false) (v : Half) :
    ioRegValue (ioRegWrite cfg r v 0b11#2 d) r = some v := by
  cases r with
  | ie | dispstat | ime | timerData | timerCtrl | dmaCtrl =>
    simp [ioRegWrite, ioRegValue, timerWriteData, timerWriteCtrl, dmaWriteCtrl]
  | dmaReg ch q =>
    cases q <;> simp [ioRegWrite, ioRegValue, dmaWriteReg, hactive ch _ rfl, withLow_low, withHigh_high]
  | ifr => exact absurd rfl hifr
  | vcount => exact absurd rfl hvcount
  | other => exact absurd rfl hother

theorem exists_ioRegValue (d : Devices) {r : IoReg} (h : r ≠ .other) : ∃ v, ioRegValue d r = some v := by
  cases r with
  | dmaReg ch q => cases q <;> exact ⟨_, rfl⟩
  | other => exact absurd rfl h
  | ie | ifr | dispstat | vcount | ime | timerData | timerCtrl | dmaCtrl => exact ⟨_, rfl⟩

/-! ## Halfword accesses -/

section
variable {off : Nat} {s : State}

theorem ioRead16_routed {v : Half} (h : ioRegValue s.dev (ioRegAt s.cfg.offset off) = some v) : ioRead16 off s = (v, s) := by
  simp only [ioRead16, h]

theorem ioRead_half_routed {v : Half} (h : ioRegValue s.dev (ioRegAt s.cfg.offset off) = some v) :
    ioRead off .half s = (v.setWidth 32, s) := by
  simp only [ioRead, ioRead16_routed h]

theorem ioRead_half_other (h : ioRegAt s.cfg.offset off = .other) :
    ioRead off .half s = ((Config.ioOtherRead s.draws off).setWidth 32, { s with draws := s.draws + 1 }) := by
  simp only [ioRead, ioRead16, h, ioRegValue]

theorem ioWrite16_routed (v : Half) (be : BitVec 2) (h : ioRegAt s.cfg.offset off ≠ .other) :
    ioWrite16 off v be s = { s with dev := ioRegWrite s.cfg (ioRegAt s.cfg.offset off) v be s.dev } := by
  unfold ioWrite16
  split
  · contradiction
  · rfl

theorem ioWrite16_other (v : Half) (be : BitVec 2) (h : ioRegAt s.cfg.offset off = .other) :
    ioWrite16 off v be s = { s with outputs := s.outputs ++ [.unroutedWrite off v be] } := by
  simp only [ioWrite16, h]

theorem ioWrite_half_routed (v : Word) {r : IoReg} (h : ioRegAt s.cfg.offset off = r) (hr : r ≠ .other) :
    ioWrite off .half v s = { s with dev := ioRegWrite s.cfg r (v.extractLsb' 0 16) 0b11#2 s.dev } := by
  subst h; exact ioWrite16_routed _ _ hr

/-- A halfword written to a register reads back, but for IF, VCOUNT and the registers of an active DMA channel. -/
theorem ioRead_ioWrite_half (v : Word) (hifr : ioRegAt s.cfg.offset off ≠ .ifr) (hvcount : ioRegAt s.cfg.offset off ≠ .vcount)
    (hother : ioRegAt s.cfg.offset off ≠ .other)
    (hactive : ∀ ch q, ioRegAt s.cfg.offset off = .dmaReg ch q → (s.dev.dma[ch.val]).active = false) :
    (ioRead off .half (ioWrite off .half v s)).1 = v &&& 0x0000FFFF#32 := by
  have hback := ioRegValue_ioRegWrite (cfg := s.cfg) hifr hvcount hother hactive (v.extractLsb' 0 16)
  have hread := ioRead_half_routed (s := { s with dev := ioRegWrite s.cfg _ (v.extractLsb' 0 16) 0b11#2 s.dev }) hback
  rw [ioWrite_half_routed v rfl hother, hread]
  ext i hi; interval_cases i <;> simp

/-! ## Byte and word accesses -/

/-- A byte write is the halfword write of the same halfword with one byte enabled. -/
theorem ioWrite_byte (off : Nat) (v : Word) (s : State) :
    ioWrite off .byte v s = ioWrite16 (off - off % 2) (laneOf off v) (0b01#2 <<< (off % 2)) s := rfl

theorem ioRead_byte (off : Nat) (s : State) :
    ioRead off .byte s = ((if off % 2 = 1 then (ioRead (off - off % 2) .half s).1 >>> 8 else (ioRead (off - off % 2) .half s).1) &&&
      0x000000FF#32, (ioRead (off - off % 2) .half s).2) := by
  refine Prod.ext ?_ rfl
  simp only [ioRead]
  rcases Nat.mod_two_eq_zero_or_one off with h | h <;> rw [h] <;> ext i hi <;> interval_cases i <;> simp

theorem ioRead_word (off : Nat) (s : State) :
    ioRead off .word s = (BitVec.ofNat 32 ((ioRead off .half s).1.toNat + (ioRead (off + 2) .half (ioRead off .half s).2).1.toNat * 2 ^ 16),
      (ioRead (off + 2) .half (ioRead off .half s).2).2) := by
  refine Prod.ext ?_ rfl
  apply BitVec.eq_of_toNat_eq
  have hlo := (ioRead16 off s).1.isLt
  have hhi := (ioRead16 (off + 2) (ioRead16 off s).2).1.isLt
  simp only [ioRead, BitVec.toNat_append, BitVec.toNat_ofNat, BitVec.toNat_setWidth]
  rw [← Nat.shiftLeft_add_eq_or_of_lt hlo, Nat.shiftLeft_eq]
  omega

theorem ioWrite_word (off : Nat) (v : Word) (s : State) :
    ioWrite off .word v s = ioWrite (off + 2) .half (v >>> 16) (ioWrite off .half v s) := rfl

/-- A byte write to a register that reads back what is written keeps the register's other byte. -/
theorem ioWrite_byte_routed (off : Nat) (v : Word) (s : State) (hifr : ioRegAt s.cfg.offset (off - off % 2) ≠ .ifr)
    (hvcount : ioRegAt s.cfg.offset (off - off % 2) ≠ .vcount) (hother : ioRegAt s.cfg.offset (off - off % 2) ≠ .other)
    (htimer : ∀ n, ioRegAt s.cfg.offset (off - off % 2) ≠ .timerData n) :
    ioWrite off .byte v s = ioWrite (off - off % 2) .half (withByte off (ioRead (off - off % 2) .half s).1 v) s := by
  obtain ⟨old, hold⟩ := exists_ioRegValue s.dev hother
  rw [ioWrite_byte, ioWrite16_routed _ _ hother, ioRegWrite_masked hold hifr hvcount htimer, merge_lane, ioRead_half_routed hold,
    ioWrite_half_routed _ rfl hother]

/-! ## The registers with rules of their own -/

theorem low_half (v : Word) : v.extractLsb' 0 16 = v.setWidth 16 := (BitVec.setWidth_eq_extractLsb' (by decide)).symm

/-- A halfword written to IF acknowledges the bits written as 1 (60_exceptions.md R524). -/
theorem ioWrite_half_ifr (v : Word) (h : ioRegAt s.cfg.offset off = .ifr) :
    ioWrite off .half v s = { s with dev := { s.dev with ifr := s.dev.ifr &&& ~~~(v.setWidth 16) } } := by
  rw [ioWrite_half_routed v h (by decide)]
  simp only [ioRegWrite, byteMask_full, and_full, low_half]

theorem ioWrite16_vcount (v : Half) (be : BitVec 2) (h : ioRegAt s.cfg.offset off = .vcount) : ioWrite16 off v be s = s := by
  rw [ioWrite16_routed v be (by rw [h]; decide), h]
  rfl

theorem ioWrite_half_other (v : Word) (h : ioRegAt s.cfg.offset off = .other) :
    ioWrite off .half v s = { s with outputs := s.outputs ++ [.unroutedWrite off (v.setWidth 16) 0b11#2] } := by
  rw [← low_half]; exact ioWrite16_other _ _ h

/-- A byte written to IF acknowledges bits of its own byte only. -/
theorem ioWrite_byte_ifr (off : Nat) (v : Word) (s : State) (h : ioRegAt s.cfg.offset (off - off % 2) = .ifr) :
    ioWrite off .byte v s = ioWrite (off - off % 2) .half (placedByte off v) s := by
  rw [ioWrite_byte, ioWrite16_routed _ _ (by rw [h]; decide), ioWrite_half_routed _ h (by decide), h, ioRegWrite_ifr_masked, laneOf_masked,
    laneOf_eq]

/-- A byte written to an unrouted offset goes to the host with its own byte enable. -/
theorem ioWrite_byte_other (off : Nat) (v : Word) (s : State) (h : ioRegAt s.cfg.offset (off - off % 2) = .other) :
    ioWrite off .byte v s = { s with outputs := s.outputs ++
      [.unroutedWrite (off - off % 2) ((placedByte off v).setWidth 16) (if off % 2 = 1 then 0b10#2 else 0b01#2)] } := by
  rw [ioWrite_byte, ioWrite16_other _ _ h, laneOf_eq, low_half, byteEnable_lane]

/-- A byte written to a timer's data register keeps the other byte of the reload value (60_exceptions.md R542). -/
theorem ioWrite_byte_timerData (off : Nat) (v : Word) (s : State) (n : Fin 4)
    (h : ioRegAt s.cfg.offset (off - off % 2) = .timerData n) :
    ioWrite off .byte v s = ioWrite (off - off % 2) .half (withByte off ((s.dev.timers[n.val]).reload.setWidth 32) v) s := by
  rw [ioWrite_byte, ioWrite16_routed _ _ (by rw [h]; simp), ioWrite_half_routed _ h (by simp), h, ioRegWrite_timerData_masked, merge_lane]

end

/-! ## Halfword writes in an ok table of offsets -/

theorem extractLsb'_setWidth (h : Half) : (h.setWidth 32 : Word).extractLsb' 0 16 = h :=
  (BitVec.setWidth_eq_extractLsb' (by decide)).symm.trans (by simp)

theorem period_eq (c : Cfg) (h : Half) : c.period (h.extractLsb' 0 2) = c.prescale.toList.getD (h.toNat % 4) 0#11 := by
  have hlt : h.toNat % 4 < 4 := Nat.mod_lt _ (by decide)
  simp [Cfg.period, List.getD_eq_getElem?_getD, hlt]

theorem selector_ne_iff (g h : Half) : g.extractLsb' 0 2 ≠ h.extractLsb' 0 2 ↔ g.toNat % 4 ≠ h.toNat % 4 := by
  simp [← BitVec.toNat_inj]

/-- The writes of the registers that stand alone, but for IF and VCOUNT. -/
theorem ioWrite_half_fixed {s : State} (h : OffsetsApart s.cfg.offset) (v : Half) :
    ioWrite s.cfg.offset.ie .half (v.setWidth 32) s = { s with dev := { s.dev with ie := v } } ∧
      ioWrite s.cfg.offset.dispstat .half (v.setWidth 32) s = { s with dev := { s.dev with dispstat := v } } ∧
      ioWrite s.cfg.offset.ime .half (v.setWidth 32) s = { s with dev := { s.dev with ime := v } } := by
  obtain ⟨hie, _, hdispstat, _, hime⟩ := ioRegAt_fixed h
  refine ⟨(ioWrite_half_routed _ hie (by decide)).trans ?_, (ioWrite_half_routed _ hdispstat (by decide)).trans ?_,
    (ioWrite_half_routed _ hime (by decide)).trans ?_⟩ <;>
    simp only [ioRegWrite, byteMask_full, merge_full, extractLsb'_setWidth]

theorem ioWrite_half_timer {s : State} (h : OffsetsApart s.cfg.offset) (n : Fin 4) (v : Half) :
    let x := s.dev.timers[n.val]
    let restarts := (x.ctrl.getLsbD 7 = false ∧ v.getLsbD 7 = true) ∨ x.ctrl.toNat % 4 ≠ v.toNat % 4
    let withTimer := fun t : Timer => { s with dev := { s.dev with timers := s.dev.timers.set n.val t n.isLt } }
    ioWrite s.cfg.offset.timer[n.val] .half (v.setWidth 32) s = withTimer { x with reload := v, counter := v } ∧
      ioWrite (s.cfg.offset.timer[n.val] + 2) .half (v.setWidth 32) s = withTimer { x with
        ctrl := v
        div := if restarts then s.cfg.prescale.toList.getD (v.toNat % 4) 0#11 else x.div } := by
  intro x restarts withTimer
  refine ⟨(ioWrite_half_routed _ (ioRegAt_timer h n 0 (by decide)) (by simp)).trans ?_,
    (ioWrite_half_routed _ (ioRegAt_timer h n 2 (by decide)) (by simp)).trans ?_⟩
  · simp [ioRegWrite, extractLsb'_setWidth, timerWriteData, setTimer, withTimer, x]
  · simp [ioRegWrite, extractLsb'_setWidth, timerWriteCtrl, setTimer, withTimer, x, restarts, period_eq, selector_ne_iff]

theorem ioWrite_half_dma {s : State} (h : OffsetsApart s.cfg.offset) (ch : Fin 4) (v : Half) :
    (∀ p ∈ [(0, DmaReg.srcLo), (2, .srcHi), (4, .dstLo), (6, .dstHi), (8, .count)],
      ioWrite (s.cfg.offset.dma[ch.val] + p.1) .half (v.setWidth 32) s = { s with dev := dmaWriteReg ch p.2 v 0xFFFF#16 s.dev }) ∧
    ioWrite (s.cfg.offset.dma[ch.val] + 10) .half (v.setWidth 32) s = { s with dev := dmaWriteCtrl ch v s.dev } := by
  have hreg : ∀ k q, k < 12 → dmaRegAt ch k = .dmaReg ch q →
      ioWrite (s.cfg.offset.dma[ch.val] + k) .half (v.setWidth 32) s = { s with dev := dmaWriteReg ch q v 0xFFFF#16 s.dev } := by
    intro k q hk hq
    rw [ioWrite_half_routed _ ((ioRegAt_dma h ch k hk).trans hq) (by simp), extractLsb'_setWidth]
    simp only [ioRegWrite, byteMask_full]
  constructor
  · simp only [List.forall_mem_cons, List.not_mem_nil, false_imp_iff, implies_true, and_true]
    exact ⟨hreg 0 _ (by decide) rfl, hreg 2 _ (by decide) rfl, hreg 4 _ (by decide) rfl, hreg 6 _ (by decide) rfl,
      hreg 8 _ (by decide) rfl⟩
  · rw [ioWrite_half_routed _ (ioRegAt_dma h ch 10 (by decide)) (by simp [dmaRegAt]), extractLsb'_setWidth]
    simp only [dmaRegAt, ioRegWrite, byteMask_full, merge_full]

theorem offset_ok_of_ok {c : Cfg} (h : c.ok = true) : c.offset.ok = true := by
  simp only [Cfg.ok, Bool.and_eq_true] at h
  obtain ⟨⟨⟨⟨_, hoffset⟩, _⟩, _⟩, _⟩ := h
  exact hoffset

/-- Settles O56: the table of offsets from the blocks being apart, and each access from the halfword access of the register it names. -/
theorem windowRoundTrip : Obligations.WindowRoundTrip := by
  unfold Obligations.WindowRoundTrip
  refine ⟨fun s hok => ?_, fun off v s => ?_⟩
  · have h := offsetsApart_of_ok (offset_ok_of_ok hok)
    refine ⟨fun p hp => ?_, fun off hoff => ?_, fun w => ?_⟩
    · have hroute := ioRegAt_of_mem_windowMap h p hp
      exact ⟨hroute, ioRead_half_routed (hroute ▸ ioRegValue_of_mem_windowMap s.cfg.offset s.dev p hp)⟩
    · have hroute := ioRegAt_of_not_mem_windowMap hoff
      exact ⟨hroute, ioRead_half_other hroute⟩
    · obtain ⟨hie, hdispstat, hime⟩ := ioWrite_half_fixed h w
      exact ⟨hie, hdispstat, hime, fun n => ioWrite_half_timer h n w, fun ch => ioWrite_half_dma h ch w⟩
  · exact ⟨ioRead_ioWrite_half v, ioWrite_half_ifr v, ioWrite16_vcount _ _, ioWrite_half_other v,
      ⟨ioRead_byte off s, ioWrite_byte_ifr off v s, ioWrite16_vcount _ _, ioWrite_byte_other off v s, ioWrite_byte_timerData off v s,
        ioWrite_byte_routed off v s⟩,
      ioRead_word off s, ioWrite_word off v s⟩

end Sys2Proof.Machine
end

section
/-! SUPPORT. O1 (spec/30_encoding.md R122, R124, R126, R127, R130): the row at an instruction's place in the table matches its encoding
and reads every operand back from it. -/

namespace Sys2Proof

/-! ## Fields of a concatenation -/

/-- A word has the bits of `val` under `mask`: the test of a row of the opcode table (30_encoding.md R136). -/
def Agrees {n : Nat} (w mask val : BitVec n) : Prop := w &&& mask = val

theorem extractLsb'_append_split {m n : Nat} (x : BitVec (m + n)) : x.extractLsb' n m ++ x.extractLsb' 0 n = x := by
  rw [BitVec.extractLsb'_append_extractLsb'_eq_extractLsb' (by omega), BitVec.extractLsb'_eq_self]

/-- A displacement is its encoded part, scaled, when its low bits are zero (R126, R130). -/
theorem extractLsb'_append_zero {m n : Nat} {x : BitVec (m + n)} (h : x.extractLsb' 0 n = 0#n) : x.extractLsb' n m ++ 0#n = x := by
  rw [← h, extractLsb'_append_split]

theorem extractLsb'_append_append_split {k m n : Nat} (z : BitVec k) (x : BitVec (m + n)) :
    (z ++ x.extractLsb' n m ++ x.extractLsb' 0 n).extractLsb' 0 (m + n) = x := by
  rw [← BitVec.extractLsb'_append_extractLsb'_eq_extractLsb' (Nat.zero_add n).symm, BitVec.extractLsb'_append_eq_of_le le_rfl,
    BitVec.extractLsb'_append_eq_of_add_le (by omega), BitVec.extractLsb'_append_eq_of_add_le (by omega), Nat.sub_self,
    BitVec.extractLsb'_eq_self, BitVec.extractLsb'_eq_self, extractLsb'_append_split]

/-- A mask tests the two parts of a concatenation each on its own. -/
theorem agrees_append {m n : Nat} {x : BitVec m} {y : BitVec n} {mask val : BitVec (m + n)} :
    Agrees (x ++ y) mask val ↔
      Agrees x (mask.extractLsb' n m) (val.extractLsb' n m) ∧ Agrees y (mask.extractLsb' 0 n) (val.extractLsb' 0 n) := by
  unfold Agrees
  constructor
  · rintro rfl
    simp [BitVec.extractLsb'_and, BitVec.extractLsb'_append_eq_of_le, BitVec.extractLsb'_append_eq_of_add_le]
  · rintro ⟨hx, hy⟩
    rw [← extractLsb'_append_split val, ← hx, ← hy, ← BitVec.and_append, extractLsb'_append_split]

theorem getLsbD_append_of_lt {m n i : Nat} {x : BitVec m} {y : BitVec n} (h : i < n) : (x ++ y).getLsbD i = y.getLsbD i := by
  rw [BitVec.getLsbD_append, if_pos h]

theorem getLsbD_append_of_le {m n i : Nat} {x : BitVec m} {y : BitVec n} (h : n ≤ i) : (x ++ y).getLsbD i = x.getLsbD (i - n) := by
  rw [BitVec.getLsbD_append, if_neg (Nat.not_lt.mpr h)]

/-! ## Field codes -/

@[simp] theorem Cond.ofBits_bits (c : Cond) : Cond.ofBits c.bits = c := by cases c <;> rfl

@[simp] theorem ShiftType.ofBits_bits (ty : ShiftType) : ShiftType.ofBits ty.bits = ty := by cases ty <;> rfl

@[simp] theorem bit_getLsbD_zero (b : Bool) : (bit b).getLsbD 0 = b := by cases b <;> rfl

/-- Format T5 puts the top bit of its second register number right above the low three (R127). -/
theorem reg_of_split {k : Nat} (z : BitVec k) (r : Reg) : (z ++ r.extractLsb' 3 1 ++ r.extractLsb' 0 3).extractLsb' 0 4 = r :=
  extractLsb'_append_append_split (m := 1) (n := 3) z r

/-! ## The row at an instruction's place -/

/-- No word matches two rows of 32-bit mode (R125). -/
theorem armRows_exclusive : armRows.Pairwise (fun r q => r.val &&& q.mask ≠ q.val &&& r.mask) := by decide +kernel

/-- No halfword matches two rows of compressed mode (R129). -/
theorem thumbRows_exclusive : thumbRows.Pairwise (fun r q => r.val &&& q.mask ≠ q.val &&& r.mask) := by decide +kernel

/-- The row at an instruction's place decodes a word to it: the rows of 32-bit mode stand in the order of the constructors. -/
theorem decodeArm_of_row {w : Word} {i : Instr} (r : Row 32) (hr : armRows[i.ctorIdx]? = some r) (hw : Agrees w r.mask r.val)
    (hi : r.build w = i) : decodeArm w = some i :=
  hi ▸ lookup_of_mem armRows armRows_exclusive w r (List.mem_of_getElem? hr) (beq_iff_eq.mpr hw)

/-- The same for compressed mode, whose constructors stand after the 85 of 32-bit mode. -/
theorem decodeThumb_of_row {h : Half} {i : Instr} (r : Row 16) (hr : thumbRows[i.ctorIdx - 85]? = some r) (hw : Agrees h r.mask r.val)
    (hi : r.build h = i) : decodeThumb h = some i :=
  hi ▸ lookup_of_mem thumbRows thumbRows_exclusive h r (List.mem_of_getElem? hr) (beq_iff_eq.mpr hw)

/-! ## Both instruction sets -/

/-- For each constructor: the fixed bits of its format are those its row asks for, and each field the row reads is the operand there. -/
theorem decodeArm_encode {i : Instr} {w : Word} (hwf : i.wf = true) (hcode : encode i = .arm w) : decodeArm w = some i := by
  cases i <;> cases hcode
  all_goals
    simp only [Instr.wf, beq_iff_eq] at hwf
    simp only [fmtA1, fmtA2, fmtA3, fmtA4, fmtA5, fmtA6, fmtA7, fmtA8, fmtA9, fmtA10, fmtA11, fmtA12, fmtA13, fmtA14, fmtA15, fmtA16,
      fmtA17, fmtA18, fmtA19, fmtA20]
    refine decodeArm_of_row _ rfl ?_ ?_
    · simp only [agrees_append]
      simp [Agrees, bit]
    · simp (disch := first | decide | assumption) only [condOf, shiftOf, BitVec.extractLsb'_append_eq_of_le,
        BitVec.extractLsb'_append_eq_of_add_le, getLsbD_append_of_lt, getLsbD_append_of_le, Nat.reduceSub, BitVec.extractLsb'_eq_self,
        Cond.ofBits_bits, ShiftType.ofBits_bits, bit_getLsbD_zero, extractLsb'_append_split, extractLsb'_append_zero]

/-- The same for compressed mode; the always-unrecognized rows other than BX with H1 = 1 have one code and no operand. -/
theorem decodeThumb_encode {i : Instr} {h : Half} (hwf : i.wf = true) (hcode : encode i = .thumb h) : decodeThumb h = some i := by
  cases i <;> cases hcode
  case tUndefB1 | tUndefB2 | tUndefB6 | tUndefB8 | tUndefBe | tUndefCond14 | tUndefBlxSuffix => rfl
  all_goals
    simp only [Instr.wf, beq_iff_eq] at hwf
    simp only [fmtT1, fmtT2, fmtT3, fmtT4, fmtT5, fmtT6, fmtT7, fmtT8, fmtT9, fmtT10, fmtT11, fmtT12, fmtT13, fmtT14, fmtT15, fmtT16,
      fmtT17, fmtT18, fmtT19]
    refine decodeThumb_of_row _ rfl ?_ ?_
    · simp only [agrees_append]
      simp [Agrees, bit, Cond.bits]
    · simp (disch := first | decide | assumption) only [BitVec.extractLsb'_append_eq_of_le, BitVec.extractLsb'_append_eq_of_add_le,
        getLsbD_append_of_lt, getLsbD_append_of_le, Nat.reduceSub, BitVec.extractLsb'_eq_self, bit_getLsbD_zero, reg_of_split,
        extractLsb'_append_split, extractLsb'_append_zero]

/-- Settles O1: an instruction's encoding matches the row at its constructor's place in the table, whose fields are its operands. -/
theorem decodeOfEncode : Obligations.DecodeOfEncode := by
  unfold Obligations.DecodeOfEncode
  intro i hwf
  cases hcode : encode i with
  | arm w => exact decodeArm_encode hwf hcode
  | thumb h => exact decodeThumb_encode hwf hcode

end Sys2Proof
end

section
/-! SUPPORT. Procedures that ask for bits of a word, and a check that two of them answer alike on every word. -/

namespace Sys2Proof

/-! ## Conditions on bits -/

/-- A condition on the bits of a word. -/
inductive BitExpr where
  | const (b : Bool)
  | isSet (i : Nat)
  | not (e : BitExpr)
  | and (e f : BitExpr)

namespace BitExpr

/-- Whether a word meets a condition. -/
def eval {n : Nat} (w : BitVec n) : BitExpr → Bool
  | const b => b
  | isSet i => w.getLsbD i
  | not e => !e.eval w
  | and e f => e.eval w && f.eval w

/-- `e` or `f`. -/
def or (e f : BitExpr) : BitExpr := not (and (not e) (not f))

/-- Every condition of a list. -/
def all : List BitExpr → BitExpr
  | [] => const true
  | e :: es => and e (all es)

/-- Bit `i` has the value `b`. -/
def bitIs (i : Nat) (b : Bool) : BitExpr := if b then isSet i else not (isSet i)

/-- The field that begins at bit `start` has the value `v`; its highest bit is asked for first. -/
def fieldIs {len : Nat} (start : Nat) (v : BitVec len) : BitExpr :=
  all ((List.range len).reverse.map (fun j => bitIs (start + j) (v.getLsbD j)))

/-- `not e`, a constant where `e` is one. -/
def negated : BitExpr → BitExpr
  | const b => const (!b)
  | e => not e

/-- `and e f`, without a part that is constant. -/
def both : BitExpr → BitExpr → BitExpr
  | const b, f => if b then f else const false
  | e, const b => if b then e else const false
  | e, f => and e f

/-- What is left of a condition when bit `i` is known to be `b`. -/
def given (i : Nat) (b : Bool) : BitExpr → BitExpr
  | const c => const c
  | isSet j => if j = i then const b else isSet j
  | not e => (e.given i b).negated
  | and e f => (e.given i b).both (f.given i b)

/-- The bit a condition asks for first. -/
def firstBit : BitExpr → Nat
  | const _ => 0
  | isSet i => i
  | not e => e.firstBit
  | and e _ => e.firstBit

section
variable {n : Nat} (w : BitVec n)

@[simp] theorem eval_isSet (i : Nat) : (isSet i).eval w = w.getLsbD i := rfl

@[simp] theorem eval_not (e : BitExpr) : e.not.eval w = !e.eval w := rfl

@[simp] theorem eval_and (e f : BitExpr) : (e.and f).eval w = (e.eval w && f.eval w) := rfl

@[simp] theorem eval_or (e f : BitExpr) : (e.or f).eval w = (e.eval w || f.eval w) := by simp [or]

@[simp] theorem eval_all (es : List BitExpr) : (all es).eval w = es.all (eval w) := by
  induction es with
  | nil => rfl
  | cons e es ih => simp only [all, eval_and, ih, List.all_cons]

@[simp] theorem eval_bitIs (i : Nat) (b : Bool) : (bitIs i b).eval w = (w.getLsbD i == b) := by cases b <;> simp [bitIs]

@[simp] theorem eval_fieldIs {len : Nat} (start : Nat) (v : BitVec len) :
    (fieldIs start v).eval w = decide (w.extractLsb' start len = v) := by
  rw [Bool.eq_iff_iff, fieldIs, eval_all, decide_eq_true_iff]
  simp only [List.all_map, List.all_reverse, List.all_eq_true, List.mem_range, Function.comp_apply, eval_bitIs, beq_iff_eq]
  constructor
  · intro h
    ext i hi
    simpa [hi] using h i hi
  · rintro rfl i hi
    simp [hi]

theorem eval_negated (e : BitExpr) : e.negated.eval w = !e.eval w := by
  unfold negated
  split <;> rfl

theorem eval_both (e f : BitExpr) : (e.both f).eval w = (e.eval w && f.eval w) := by
  unfold both
  split
  · split <;> simp_all [eval]
  · split <;> simp_all [eval]
  · rfl

theorem eval_given (i : Nat) (e : BitExpr) : (e.given i (w.getLsbD i)).eval w = e.eval w := by
  induction e with
  | const b => rfl
  | isSet j =>
    simp only [given]
    split
    · next h => exact h ▸ rfl
    · rfl
  | not e ih => rw [given, eval_negated, ih, eval_not]
  | and e f he hf => rw [given, eval_both, he, hf, eval_and]

end

end BitExpr

/-! ## Procedures -/

/-- A procedure that answers a word by the bits it has: an answer, or a question by which one of two procedures goes on. -/
inductive Procedure (α : Type) where
  | answer (a : α)
  | ask (e : BitExpr) (yes no : Procedure α)

namespace Procedure

variable {n : Nat} {α : Type}

/-- The answer for a word. -/
def run (w : BitVec n) : Procedure α → α
  | answer a => a
  | ask e yes no => if e.eval w then yes.run w else no.run w

/-- What is left of a procedure when bit `i` is known to be `b`. -/
def given (i : Nat) (b : Bool) : Procedure α → Procedure α
  | answer a => answer a
  | ask e yes no =>
    match e.given i b with
    | .const c => if c then yes.given i b else no.given i b
    | f => ask f (yes.given i b) (no.given i b)

/-- The bit a procedure asks for first, `i` where it asks for none. -/
def firstBit (i : Nat) : Procedure α → Nat
  | answer _ => i
  | ask e _ _ => e.firstBit

/-- Whether two procedures answer alike on every word: split on the next bit that one of them asks for, until both answer. -/
def alike [DecidableEq α] : Nat → Procedure α → Procedure α → Bool
  | _, answer a, answer b => a = b
  | 0, _, _ => false
  | fuel + 1, p, q =>
    let i := p.firstBit (q.firstBit 0)
    alike fuel (p.given i true) (q.given i true) && alike fuel (p.given i false) (q.given i false)

theorem run_given (i : Nat) (p : Procedure α) (w : BitVec n) : (p.given i (w.getLsbD i)).run w = p.run w := by
  induction p with
  | answer a => rfl
  | ask e yes no hyes hno =>
    simp only [given, run, ← BitExpr.eval_given w i e, ← hyes, ← hno]
    split
    · next c h => cases c <;> simp [h, BitExpr.eval]
    · rfl

/-- The check is sound: of the two procedures left by each value of a bit, it has compared those left by the value the word has. -/
theorem run_eq_of_alike [DecidableEq α] {fuel : Nat} {p q : Procedure α} (h : alike fuel p q = true) (w : BitVec n) :
    p.run w = q.run w := by
  fun_induction alike fuel p q with
  | case1 _ a b => exact of_decide_eq_true h
  | case2 => cases h
  | case3 fuel p q _ i htrue hfalse =>
    obtain ⟨ht, hf⟩ := Bool.and_eq_true_iff.mp h
    rw [← run_given i p, ← run_given i q]
    cases w.getLsbD i
    · exact hfalse hf
    · exact htrue ht

end Procedure

/-! ## The opcode table as a procedure -/

/-- The test of a row, its highest bit first. -/
def Row.test {n : Nat} (r : Row n) : BitExpr :=
  .all (((List.range n).reverse.filter r.mask.getLsbD).map (fun i => .bitIs i (r.val.getLsbD i)))

theorem Row.eval_test {n : Nat} (r : Row n) (hr : r.val &&& r.mask = r.val) (w : BitVec n) : r.test.eval w = r.hits w := by
  have hval (i : Nat) : (r.val.getLsbD i && r.mask.getLsbD i) = r.val.getLsbD i := by rw [← BitVec.getLsbD_and, hr]
  rw [Row.hits, Row.test, BitExpr.eval_all, Bool.eq_iff_iff, beq_iff_eq]
  simp only [List.all_map, List.all_eq_true, List.mem_filter, List.mem_reverse, List.mem_range, Function.comp_apply,
    BitExpr.eval_bitIs, beq_iff_eq]
  constructor
  · intro h
    refine BitVec.eq_of_getLsbD_eq fun i hi => ?_
    rw [BitVec.getLsbD_and, ← hval i]
    cases hm : r.mask.getLsbD i with
    | false => rw [Bool.and_false, Bool.and_false]
    | true => rw [h i ⟨hi, hm⟩]
  · rintro h i ⟨_, hm⟩
    rw [← h, BitVec.getLsbD_and, hm, Bool.and_true]

/-- Looking a word up in a list of rows and answering what `f` says of the instruction found, else `d`. -/
def lookupProcedure {n : Nat} {β : Type} (f : Instr → β) (d : β) : List (Row n) → Procedure β
  | [] => .answer d
  | r :: rest => .ask r.test (.answer (f (r.build 0#n))) (lookupProcedure f d rest)

theorem run_lookupProcedure {n : Nat} {β : Type} (f : Instr → β) (d : β) (w : BitVec n) (rows : List (Row n))
    (hval : ∀ r ∈ rows, r.val &&& r.mask = r.val) (hf : ∀ r ∈ rows, f (r.build w) = f (r.build 0#n)) :
    (lookupProcedure f d rows).run w = (lookup rows w).elim d f := by
  induction rows with
  | nil => rfl
  | cons r rest ih =>
    obtain ⟨hr, hrest⟩ := List.forall_mem_cons.mp hval
    obtain ⟨hb, hbrest⟩ := List.forall_mem_cons.mp hf
    simp only [lookup, lookupProcedure, Procedure.run, Row.eval_test r hr, ih hrest hbrest, ← hb]
    split <;> rfl

end Sys2Proof
end

section
/-! SUPPORT. O2, O3 (spec/30_encoding.md R125, R129): the two decoding procedures, and their agreement with the opcode table. -/

namespace Sys2Proof

open Sys2Proof.Claims

/-! ## 32-bit mode -/

open BitExpr Procedure in
/-- The procedure of R125, test by test. -/
def armProcedure : Procedure (Option ArmFormat) :=
  ask (fieldIs 4 0x12FFF1#24) (answer (some .a7)) <|
  ask (all [fieldIs 22 0b000000#6, fieldIs 4 0b1001#4]) (answer (some .a14)) <|
  ask (all [fieldIs 23 0b00001#5, fieldIs 4 0b1001#4]) (answer (some .a15)) <|
  ask (all [fieldIs 23 0b00010#5, fieldIs 20 0#2, fieldIs 4 0b00001001#8]) (answer (some .a16)) <|
  ask (all [fieldIs 25 0#3, isSet 7, isSet 4, not (fieldIs 5 0#2), or (isSet 20) (fieldIs 5 0b01#2)])
    (ask (isSet 22) (answer (some .a18)) (answer (some .a17))) <|
  ask (all [fieldIs 23 0b00010#5, fieldIs 16 0b001111#6, fieldIs 0 0#12]) (answer (some .a4)) <|
  ask (all [fieldIs 23 0b00010#5, fieldIs 20 0b10#2, fieldIs 12 0b1111#4, fieldIs 4 0#8]) (answer (some .a5)) <|
  ask (all [fieldIs 23 0b00110#5, fieldIs 20 0b10#2, fieldIs 12 0b1111#4]) (answer (some .a6)) <|
  ask (all [fieldIs 26 0#2, not (all [fieldIs 23 0b10#2, not (isSet 20)]), or (isSet 25) (or (not (isSet 4)) (not (isSet 7)))])
    (ask (isSet 25) (answer (some .a1)) (ask (isSet 4) (answer (some .a3)) (answer (some .a2)))) <|
  ask (all [fieldIs 26 0b01#2, not (all [isSet 25, isSet 4])]) (ask (isSet 25) (answer (some .a9)) (answer (some .a8))) <|
  ask (fieldIs 25 0b100#3) (answer (some .a10)) <|
  ask (fieldIs 25 0b101#3) (answer (some .a11)) <|
  ask (fieldIs 24 0b1111#4) (answer (some .a12)) (answer (some .unrecognized))

theorem run_armProcedure (w : Word) : armProcedure.run w = some (armFormatOf w) := by
  simp [armProcedure, armFormatOf, Procedure.run, apply_ite some, imp_iff_not_or]

theorem armRows_val_and_mask : ∀ r ∈ armRows, r.val &&& r.mask = r.val := by decide

theorem armFormat_armRows (w : Word) : ∀ r ∈ armRows, armFormat (r.build w) = armFormat (r.build 0#32) := by
  intro r hr
  fin_cases hr <;> rfl

/-- No path of the two procedures asks for more than the 28 bits below the condition field. -/
theorem armProcedure_alike : armProcedure.alike 28 (lookupProcedure armFormat (some .unrecognized) armRows) = true := by
  decide +kernel

/-- A list of rows of which no two match one word has at most one that matches it. -/
theorem length_filter_hits_le_one {n : Nat} {rows : List (Row n)}
    (h : rows.Pairwise (fun r q => r.val &&& q.mask ≠ q.val &&& r.mask)) (w : BitVec n) :
    (rows.filter (fun r => r.hits w)).length ≤ 1 := by
  have hpair := (h.imp fun {r q} hne => Row.not_both r q hne w).filter (fun r => r.hits w)
  have hhits : ∀ r ∈ rows.filter (fun r => r.hits w), r.hits w = true := fun r hr => (List.mem_filter.mp hr).2
  generalize rows.filter (fun r => r.hits w) = rs at hpair hhits
  match rs with
  | [] => exact Nat.zero_le 1
  | [_] => exact le_rfl
  | r :: q :: rest =>
    have hnot : q.hits w = false := List.rel_of_pairwise_cons hpair List.mem_cons_self (hhits r List.mem_cons_self)
    rw [hhits q (List.mem_cons_of_mem r List.mem_cons_self)] at hnot
    cases hnot

/-- Settles O2: the procedure and the table, as procedures on bits, answer alike; the rows exclude one another. -/
theorem armDecodeFollowsProcedure : Obligations.ArmDecodeFollowsProcedure := by
  unfold Obligations.ArmDecodeFollowsProcedure
  refine ⟨fun w => ?_, length_filter_hits_le_one armRows_exclusive⟩
  have h : (decodeArm w).elim (some .unrecognized) armFormat = some (armFormatOf w) := by
    rw [← run_armProcedure, Procedure.run_eq_of_alike armProcedure_alike]
    exact (run_lookupProcedure armFormat _ w armRows armRows_val_and_mask (armFormat_armRows w)).symm
  rw [← h]
  cases decodeArm w <;> rfl

/-! ## Compressed mode -/

open BitExpr Procedure in
/-- The procedure of R129, test by test. -/
def thumbProcedure : Procedure (Option ThumbFormat) :=
  ask (fieldIs 11 0b00011#5) (answer (some .t2)) <|
  ask (fieldIs 13 0b000#3) (answer (some .t1)) <|
  ask (fieldIs 13 0b001#3) (answer (some .t3)) <|
  ask (fieldIs 10 0b010000#6) (answer (some .t4)) <|
  ask (fieldIs 10 0b010001#6) (ask (all [fieldIs 8 0b11#2, isSet 7]) (answer (some .unrecognized)) (answer (some .t5))) <|
  ask (fieldIs 11 0b01001#5) (answer (some .t6)) <|
  ask (fieldIs 12 0b0101#4) (ask (isSet 9) (answer (some .t8)) (answer (some .t7))) <|
  ask (fieldIs 13 0b011#3) (answer (some .t9)) <|
  ask (fieldIs 12 0b1000#4) (answer (some .t10)) <|
  ask (fieldIs 12 0b1001#4) (answer (some .t11)) <|
  ask (fieldIs 12 0b1010#4) (answer (some .t12)) <|
  ask (fieldIs 8 0b10110000#8) (answer (some .t13)) <|
  ask (all [fieldIs 12 0b1011#4, fieldIs 9 0b10#2]) (answer (some .t14)) <|
  ask (fieldIs 12 0b1100#4) (answer (some .t15)) <|
  ask (fieldIs 8 0b11011111#8) (answer (some .t17)) <|
  ask (all [fieldIs 12 0b1101#4, not (fieldIs 8 0b1110#4)]) (answer (some .t16)) <|
  ask (fieldIs 11 0b11100#5) (answer (some .t18)) <|
  ask (fieldIs 12 0b1111#4) (answer (some .t19)) (answer (some .unrecognized))

theorem run_thumbProcedure (h : Half) : thumbProcedure.run h = some (thumbFormatOf h) := by
  simp [thumbProcedure, thumbFormatOf, Procedure.run, apply_ite some]

theorem thumbRows_val_and_mask : ∀ r ∈ thumbRows, r.val &&& r.mask = r.val := by decide

theorem thumbFormat_thumbRows (h : Half) : ∀ r ∈ thumbRows, thumbFormat (r.build h) = thumbFormat (r.build 0#16) := by
  intro r hr
  fin_cases hr <;> rfl

/-- The procedure answers a format for every halfword, so the table, which answers none where no row matches, has a row for each. -/
theorem thumbProcedure_alike : thumbProcedure.alike 16 (lookupProcedure thumbFormat none thumbRows) = true := by decide +kernel

/-- Settles O3: the procedure and the table, as procedures on bits, answer alike. -/
theorem thumbDecodeFollowsProcedure : Obligations.ThumbDecodeFollowsProcedure := by
  unfold Obligations.ThumbDecodeFollowsProcedure
  intro h
  have hformat : (decodeThumb h).elim none thumbFormat = some (thumbFormatOf h) := by
    rw [← run_thumbProcedure, Procedure.run_eq_of_alike thumbProcedure_alike]
    exact (run_lookupProcedure thumbFormat none h thumbRows thumbRows_val_and_mask (thumbFormat_thumbRows h)).symm
  cases hrow : decodeThumb h with
  | none => rw [hrow] at hformat; cases hformat
  | some i => exact ⟨i, rfl, by rwa [hrow] at hformat⟩

end Sys2Proof
end

section
/-! SUPPORT. O10 (spec/30_encoding.md R131, R136, spec/46_swi_undefined.md R296): a step without an interrupt entry, what its fetch
reads and leaves, and what an exception entry leaves. -/

namespace Sys2Proof.Machine

open Sys2Proof.Claims

/-! ## The fetch of a step -/

theorem alignDown_of_aligned {a : Word} {n : Width} (h : a.toNat % n.bytes = 0) : alignDown a n = a :=
  BitVec.eq_of_toNat_eq (by rw [alignDown_toNat, h, Nat.sub_zero])

theorem alignDown_fetch {s : State} (h : s.pcAligned) : alignDown s.pc (fetchWidth s.cpsr.t) = s.pc := by
  refine alignDown_of_aligned ?_
  rw [State.pcAligned] at h
  cases ht : s.cpsr.t <;> simpa [ht, fetchWidth, Width.bytes] using h

/-- A step that enters no interrupt fetches and executes (40_execution_common.md R160). -/
theorem cpuStep_of_noInterrupt {s : State} (h : noInterrupt s) : cpuStep s = fetchExec (beginStep s) := by
  have hirq : irqTaken (beginStep s) = false := by
    rcases h with hi | hline
    · simp [irqTaken, hi]
    · simp [irqTaken, hline]
  simp only [cpuStep, hirq, Bool.false_eq_true, if_false]

/-- The fetch of a step at an aligned `pc` in a store or an image (20_memory.md R80, R82). -/
theorem fetch_beginStep {s : State} (hplain : plain s.cfg s.pc (fetchWidth s.cpsr.t)) (halign : s.pcAligned) :
    fetch (beginStep s) = (loadBytes s.mem (byteKey s.cfg s.pc) (fetchWidth s.cpsr.t), afterFetch s) := by
  have hpc := alignDown_fetch halign
  have hbacked : (regionOf s.cfg s.pc).kind.isBacked = true := by rw [plain, unitRegion, hpc] at hplain; exact hplain
  change memRead s.pc (fetchWidth s.cpsr.t) (beginStep s) = _
  unfold memRead afterFetch noteAccess
  cases hk : (regionOf s.cfg s.pc).kind <;> simp_all [RegionKind.isBacked]

/-- In 32-bit mode the fetch gives the four bytes at `pc`, the lowest address first (20_memory.md R77). -/
theorem fetch_word {s : State} {b0 b1 b2 b3 : Byte} (hplain : plain s.cfg s.pc .word) (ht : s.cpsr.t = false) (halign : s.pcAligned)
    (hbytes : fetchedBytes s = [b0, b1, b2, b3]) : fetch (beginStep s) = (b3 ++ b2 ++ b1 ++ b0, afterFetch s) := by
  have hwidth : fetchWidth s.cpsr.t = .word := by rw [ht]; rfl
  rw [fetch_beginStep (hwidth ▸ hplain) halign, hwidth]
  rw [fetchedBytes, hwidth] at hbytes
  simp only [Width.bytes, List.range, List.range.loop, List.map, List.cons.injEq] at hbytes
  obtain ⟨rfl, rfl, rfl, rfl, _⟩ := hbytes
  rfl

/-! ## An exception entry -/

theorem entered_enterException {m : Mode} (hm : m ≠ .user ∧ m ≠ .sys) (vec ret : Word) (s : State) :
    Entered m vec ret s (enterException m vec ret s) := by
  obtain ⟨huser, hsys⟩ := hm
  have hspsr : spsrOf m s.spsr ≠ none := by cases m <;> simp_all [spsrOf]
  have hlink : (enterException m vec ret s).xIn m 14#4 = ret := x_setX_same 14#4 ret _ (by decide)
  refine ⟨enterException_cpsr m vec ret s, rfl, ?_, fun m' hne => ?_, hlink, keepsRegs_enterException m vec ret s,
    enterException_mem m vec ret s, enterException_dev m vec ret s, enterException_cfg m vec ret s, enterException_inputs m vec ret s⟩
  · rw [enterException_spsr, spsrOf_setSpsrOf, if_pos ⟨rfl, hspsr⟩]
  · rw [enterException_spsr, spsrOf_setSpsrOf, if_neg fun h => hne h.1]

/-! ## A word without a row -/

theorem condOf_append (b3 b2 b1 b0 : Byte) : condOf (b3 ++ b2 ++ b1 ++ b0) = Cond.ofBits (b3.extractLsb' 4 4) := by
  simp (disch := decide) only [condOf, BitVec.extractLsb'_append_eq_of_le, Nat.reduceSub]

theorem execUnlistedWord_trap {c : Cond} {s : State} (h : condHolds c s.cpsr = true) (htrap : s.cfg.unrecognizedPolicy = .trap) :
    execUnlistedWord c s =
      .next (enterException .und s.cfg.vector.undef (s.pc + 4#32) { s with pc := s.pc + 4#32 }) :=
  (armExec_pass c _ s h).trans ((raiseUndefined_eq _ _).trans (congrArg _ (if_pos htrap)))

theorem execUnlistedWord_noEffect {c : Cond} {s : State} (h : condHolds c s.cpsr = true)
    (hno : s.cfg.unrecognizedPolicy = .noEffect) : execUnlistedWord c s = .next { s with pc := s.pc + 4#32 } :=
  (armExec_pass c _ s h).trans ((raiseUndefined_eq _ _).trans (congrArg _ (if_neg (by rw [hno]; decide))))

theorem execUnlistedWord_fail {c : Cond} {s : State} (h : condHolds c s.cpsr = false) :
    execUnlistedWord c s = .next { s with pc := s.pc + 4#32 } := armExec_fail c _ s h

theorem ifExecuted_pass {c : Cond} {s : State} (h : condHolds c s.cpsr = true) (n : Nat) : ifExecuted c s n = n := if_pos h

theorem ifExecuted_fail {c : Cond} {s : State} (h : condHolds c s.cpsr = false) (n : Nat) :
    ifExecuted c s n = s.cfg.internal.skipped := if_neg (by rw [h]; decide)

/-- A step that fetches a word without a row runs the Undefined exception under the word's condition, with its internal cycles. -/
theorem cpuStep_of_no_row {s : State} {w : Word} (hirq : noInterrupt s) (ht : s.cpsr.t = false)
    (hfetch : fetch (beginStep s) = (w, afterFetch s)) (hrow : decodeArm w = none) :
    cpuStep s = addCycles (ifExecuted (condOf w) (afterFetch s) (unrecognizedCycles (afterFetch s)))
      (execUnlistedWord (condOf w) (afterFetch s)) := by
  rw [cpuStep_of_noInterrupt hirq]
  simp only [fetchExec, hfetch, beginStep_cpsr, ht, decodeFetched, Bool.false_eq_true, if_false, hrow]

/-- Settles O10: the word's condition decides whether the step traps by its policy or skips. -/
theorem wordWithoutRowTraps : Obligations.WordWithoutRowTraps := by
  unfold Obligations.WordWithoutRowTraps
  intro s b0 b1 b2 b3 hirq hplain ht halign hbytes hrow
  have hstep := cpuStep_of_no_row hirq ht (fetch_word hplain ht halign hbytes) hrow
  rw [condOf_append] at hstep
  refine ⟨fun hpass htrap => ?_, fun hpass hno => ?_, fun hfail => ?_⟩
  · rw [execUnlistedWord_trap (s := afterFetch s) hpass htrap] at hstep
    exact ⟨_, hstep, entered_enterException (by decide) _ _ _⟩
  · have hcost : unrecognizedCycles (afterFetch s) = s.cfg.internal.noEffect := congrArg (trapCycles · (afterFetch s)) hno
    rw [execUnlistedWord_noEffect (s := afterFetch s) hpass hno, ifExecuted_pass (s := afterFetch s) hpass, hcost] at hstep
    exact hstep
  · rw [execUnlistedWord_fail (s := afterFetch s) hfail, ifExecuted_fail (s := afterFetch s) hfail] at hstep
    exact hstep

end Sys2Proof.Machine
end

section
/-! SUPPORT. O6, O25 (spec/40_execution_common.md R160, R162): what a step fetches is what its bytes decode to, and an instruction of
32-bit mode runs under its condition. -/

namespace Sys2Proof.Machine

open Sys2Proof.Claims

/-! ## The condition -/

/-- A result is that of a body run under a condition (40_execution_common.md R162). -/
def RunsUnder (c : Cond) (s : State) (r : Result) : Prop := ∃ body, r = armExec c body s

theorem RunsUnder.fail {c : Cond} {s : State} {r : Result} (h : RunsUnder c s r) (hc : condHolds c s.cpsr = false) :
    r = .next { s with pc := s.pc + 4#32 } := by
  obtain ⟨body, rfl⟩ := h
  exact armExec_fail c body s hc

theorem runsUnder_dpWrite (f : AluOp) (c : Cond) (sf : Bool) (rn rd : Reg) (o : Operand2) (s : State) :
    RunsUnder c s (dpWrite f c sf rn rd o s) := ⟨_, rfl⟩

theorem runsUnder_dpCompare (f : AluOp) (c : Cond) (rn : Reg) (o : Operand2) (s : State) :
    RunsUnder c s (dpCompare f c rn o s) := ⟨_, rfl⟩

/-- Every instruction that has a condition runs under it; those of compressed mode have none. -/
theorem runsUnder_exec {i : Instr} {c : Cond} (h : armCond i = some c) (s : State) : RunsUnder c s (exec i s) := by
  unfold exec
  cases i with
  | andImm | andShImm | andShReg | eorImm | eorShImm | eorShReg | subImm | subShImm | subShReg | rsbImm | rsbShImm | rsbShReg
  | addImm | addShImm | addShReg | adcImm | adcShImm | adcShReg | sbcImm | sbcShImm | sbcShReg | rscImm | rscShImm | rscShReg
  | orrImm | orrShImm | orrShReg | movImm | movShImm | movShReg | bicImm | bicShImm | bicShReg | mvnImm | mvnShImm | mvnShReg =>
    cases h; exact runsUnder_dpWrite ..
  | tstImm | tstShImm | tstShReg | teqImm | teqShImm | teqShReg | cmpImm | cmpShImm | cmpShReg | cmnImm | cmnShImm | cmnShReg =>
    cases h; exact runsUnder_dpCompare ..
  | mrs | msrReg | msrImm | bx | b | bl | ldrImm | ldrReg | strImm | strReg | ldrbImm | ldrbReg | strbImm | strbReg | ldm | stm
  | swi | undefArch | undefCopTransfer | undefCopOp | undefDoubleword | mul | mla | umull | umlal | smull | smlal | swp | swpb
  | strhReg | strhImm | ldrhReg | ldrhImm | ldrsbReg | ldrsbImm | ldrshReg | ldrshImm =>
    cases h; exact ⟨_, rfl⟩
  | _ => cases h

/-- Settles O25: under a condition that does not hold the body is not run. -/
theorem conditionFailed : Obligations.ConditionFailed := by
  unfold Obligations.ConditionFailed
  intro i c s hcond hfail
  exact (runsUnder_exec hcond s).fail hfail

/-! ## The fetched value and its bytes -/

theorem decodeBytes_word {b0 b1 b2 b3 : Byte} {i : Instr} {rest : List Byte}
    (h : decodeBytes false [b0, b1, b2, b3] = .ok (i, rest)) : decodeArm (wordOfBytes b0 b1 b2 b3) = some i := by
  simp only [decodeBytes] at h
  split at h
  · next j hj => cases h; exact hj
  · cases h

theorem decodeBytes_half {b0 b1 : Byte} {i : Instr} {rest : List Byte} (h : decodeBytes true [b0, b1] = .ok (i, rest)) :
    decodeThumb (halfOfBytes b0 b1) = some i := by
  simp only [decodeBytes] at h
  split at h
  · next j hj => cases h; exact hj
  · cases h

/-- The value a fetch loads decodes as its bytes do, in either instruction set (20_memory.md R77, R82). -/
theorem decodeFetched_loadBytes {s : State} {i : Instr} (h : decodeBytes s.cpsr.t (fetchedBytes s) = .ok (i, [])) :
    decodeFetched s.cpsr.t (loadBytes s.mem (byteKey s.cfg s.pc) (fetchWidth s.cpsr.t)) = some i := by
  rw [fetchedBytes] at h
  cases ht : s.cpsr.t with
  | false =>
    rw [ht] at h
    exact decodeBytes_word h
  | true =>
    rw [ht] at h
    have hthumb := decodeBytes_half h
    rwa [← extractLsb'_setWidth (halfOfBytes _ _)] at hthumb

theorem step_of_no_call {s : State} (h : s.inputs = []) : step s = turn s := by
  unfold step; rw [h]

/-- Settles O6: without a call and without an interrupt a step is a turn whose fetch decodes to the instruction. -/
theorem stepRunsDecoded : Obligations.StepRunsDecoded := by
  unfold Obligations.StepRunsDecoded
  intro s i hcalls hirq hplain halign hbytes
  have hcpu : cpuStep s = execCounted i (afterFetch s) := by
    rw [cpuStep_of_noInterrupt hirq]
    simp only [fetchExec, fetch_beginStep hplain halign, beginStep_cpsr, decodeFetched_loadBytes hbytes]
  rw [step_of_no_call hcalls, turn, hcpu]
  rfl

end Sys2Proof.Machine
end

section
/-! SUPPORT. O49 (spec/40_execution_common.md R171, spec/60_exceptions.md R500): what each shared body of the meanings changes of the status
word, and every instruction by its body. -/

namespace Sys2Proof.Machine

open Sys2Proof.Claims

/-- Every next state of a result has the status word of `s`, changed only in the bits of an effect. -/
structure StatusKept (s : State) (e : StatusEffect) (r : Result) : Prop where
  kept : ∀ t, r = .next t → e.keeps s.cpsr t.cpsr

theorem StatusEffect.keeps_refl (e : StatusEffect) (p : Cpsr) : e.keeps p p := by cases e <;> trivial

theorem keeps_setNZ (r : Word) (p : Cpsr) : StatusEffect.signZero.keeps p (setNZ r p) := rfl

theorem keeps_setNZC (r : Word) (c : Bool) (p : Cpsr) : StatusEffect.logical.keeps p (setNZC r c p) := rfl

theorem keeps_setNZCV (o : AddOut) (p : Cpsr) : StatusEffect.arithmetic.keeps p (setNZCV o p) := rfl

/-- An operation of the ALU whose flags are those of an effect (40_execution_common.md R171). -/
def FlagsWithin (e : StatusEffect) (f : AluOp) : Prop := ∀ a b cin sc p, e.keeps p (setAluFlags (f a b cin sc) p)

section
variable {e : StatusEffect} {s t : State} {r r' : Result}

/-! ## Sequencing -/

theorem StatusKept.next (h : e.keeps s.cpsr t.cpsr) : StatusKept s e (.next t) := ⟨by rintro _ ⟨⟩; exact h⟩

/-- A body that goes on with the status word as it was. -/
theorem StatusKept.same (h : t.cpsr = s.cpsr) : StatusKept s e (.next t) := .next (h ▸ e.keeps_refl _)

theorem StatusKept.everything : StatusKept s .everything r := ⟨fun _ _ => trivial⟩

theorem StatusKept.ite {c : Prop} [Decidable c] (h : StatusKept s e r) (h' : StatusKept s e r') :
    StatusKept s e (if c then r else r') := by split <;> assumption

theorem StatusKept.armExec {c : Cond} {body : Word → State → Result}
    (h : StatusKept { s with pc := s.pc + 4#32 } e (body s.pc { s with pc := s.pc + 4#32 })) :
    StatusKept s e (armExec c body s) := by
  by_cases hc : condHolds c s.cpsr = true
  · rw [armExec_pass c body s hc]; exact ⟨h.kept⟩
  · rw [armExec_fail c body s (by simpa using hc)]; exact .same rfl

theorem StatusKept.thumbExec {body : Word → State → Result}
    (h : StatusKept { s with pc := s.pc + 2#32 } e (body s.pc { s with pc := s.pc + 2#32 })) :
    StatusKept s e (thumbExec body s) := ⟨h.kept⟩

theorem StatusKept.unlisted {body : Word → State → Result} {a : Word} (h : StatusKept s e (body a s)) :
    StatusKept s e (unlistedBody body a s) := ⟨fun t ht => h.kept t ((unlistedBody_eq_next body a s t).mp ht).2⟩

/-! ## Flags -/

theorem statusKept_dpFinish {out : AluOut} (h : ∀ q, e.keeps q (setAluFlags out q)) (sf : Bool) (rd : Reg) (s : State) :
    StatusKept s (if !sf then .nothing else if rd = 15#4 then .everything else e) (dpFinish sf rd out s) := by
  cases sf with
  | false => exact .same (writeReg_cpsr ..)
  | true =>
    by_cases hrd : rd = 15#4
    · rw [if_pos hrd]; exact .everything
    · rw [if_neg hrd, dpFinish, if_pos rfl, if_neg hrd]; exact .next (by rw [writeReg_cpsr]; exact h _)

theorem statusKept_dpWrite {f : AluOp} (h : FlagsWithin e f) (c : Cond) (sf : Bool) (rn rd : Reg) (o : Operand2) (s : State) :
    StatusKept s (if !sf then .nothing else if rd = 15#4 then .everything else e) (dpWrite f c sf rn rd o s) :=
  .armExec (statusKept_dpFinish (h _ _ _ _) sf rd _)

theorem statusKept_dpCompare {f : AluOp} (h : FlagsWithin e f) (c : Cond) (rn : Reg) (o : Operand2) (s : State) :
    StatusKept s e (dpCompare f c rn o s) := .armExec (.next (h _ _ _ _ _))

theorem statusKept_mulFinish (sf : Bool) (rd : Reg) (v : Word) (s : State) :
    StatusKept s (if sf then .signZero else .nothing) (mulFinish sf rd v s) := by
  refine .next ?_
  rw [writeReg_cpsr]
  cases sf <;> rfl

theorem statusKept_longMulFinish (sf : Bool) (rdHi rdLo : Reg) (v : BitVec 64) (s : State) :
    StatusKept s (if sf then .signZero else .nothing) (longMulFinish sf rdHi rdLo v s) := by
  refine .next ?_
  rw [writeReg_cpsr, writeReg_cpsr]
  cases sf <;> rfl

/-- Flags, then one register: the shape of the arithmetic, the logic, the shifts and the moves (47_thumb_alu.md R302). -/
theorem statusKept_flagsThenReg {f : Cpsr → Cpsr} (h : e.keeps s.cpsr (f s.cpsr)) (i : Reg) (v : Word) :
    StatusKept s e (.next ((s.mapCpsr f).setX i v)) := .next (by rw [setX_cpsr]; exact h)

/-! ## Status words and traps -/

theorem statusKept_execMrs (c : Cond) (b : Bool) (rd : Reg) (s : State) : StatusKept s e (execMrs c b rd s) := by
  refine .armExec (.ite ?_ (.same (writeReg_cpsr ..)))
  split
  · exact ⟨fun _ h => by cases h⟩
  · exact .same (writeReg_cpsr ..)

/-- MSR writes the current status word, or a saved one and leaves the current one. -/
theorem statusKept_psrWrite (b : Bool) (fields : BitVec 4) (v : Word) (s : State) :
    StatusKept s (if b then .nothing else .everything) (psrWrite b fields v s) := by
  cases b with
  | false => exact .everything
  | true =>
    constructor
    intro t ht
    obtain ⟨c, f, rfl, hcpsr, _⟩ := psrWrite_state true fields v s t ht
    exact hcpsr rfl

/-- An exception entry changes the mode, T and I (60_exceptions.md R500). -/
theorem keeps_enterException (m : Mode) (vec ret : Word) (s : State) :
    StatusEffect.entry.keeps s.cpsr (enterException m vec ret s).cpsr := by
  rw [enterException_cpsr]; rfl

theorem statusKept_raiseSwi (ret : Word) (s : State) : StatusKept s (trapStatus s.cfg.swiPolicy) (raiseSwi ret s) := by
  unfold raiseSwi
  cases s.cfg.swiPolicy with
  | trap => exact .next (keeps_enterException ..)
  | noEffect => exact .same rfl

theorem statusKept_raiseUndefined (ret : Word) (s : State) :
    StatusKept s (trapStatus s.cfg.unrecognizedPolicy) (raiseUndefined ret s) := by
  unfold raiseUndefined
  cases s.cfg.unrecognizedPolicy with
  | trap => exact .next (keeps_enterException ..)
  | noEffect => exact .same rfl

/-! ## Transfers and branches -/

theorem statusKept_transferLoad {n : Width} {load : Word → State → Word × State} (hl : IsLoad n load) (rn rd : Reg) (d : Address)
    (s : State) : StatusKept s e (transferLoad load rn rd d s) := by
  obtain ⟨t, ht, _, hcpsr, _⟩ := transferLoad_state n load hl rn rd d s
  rw [ht]; exact .same hcpsr

theorem statusKept_transferStore (n : Width) (a : Word) (rn rd : Reg) (d : Address) (s : State) :
    StatusKept s e (transferStore n a rn rd d s) := by
  obtain ⟨t, ht, _, _, hcpsr, _⟩ := transferStore_state n a rn rd d s
  rw [ht]; exact .same hcpsr

theorem statusKept_swapBody {n : Width} {load : Word → State → Word × State} (hl : IsLoad n load) (rn rd rm : Reg) (a : Word)
    (s : State) : StatusKept s e (swapBody load n rn rd rm a s) := .same (by simp [hl.cpsr_eq])

theorem statusKept_blockStore (b u sbit w : Bool) (rn : Reg) (list : BitVec 16) (a : Word) (s : State) :
    StatusKept s e (blockStore b u sbit w rn list a s) := .same (by simp [apply_ite State.cpsr])

/-- A block load copies the SPSR with the S bit and register 15 in its list, and only then (43_block_transfer.md R254). -/
theorem statusKept_blockLoad (b u sbit w : Bool) (rn : Reg) (list : BitVec 16) (a : Word) (s : State) :
    StatusKept s (if sbit && list.getLsbD 15 then .everything else .nothing) (blockLoad b u sbit w rn list a s) := by
  cases hsbit : sbit && list.getLsbD 15 with
  | true => exact .everything
  | false =>
    cases hlist : list.getLsbD 15 with
    | false => simp only [blockLoad, hlist]; exact .same (by simp [apply_ite State.cpsr])
    | true =>
      have hs : sbit = false := by rwa [hlist, Bool.and_true] at hsbit
      simp only [blockLoad, hlist, hs]; exact .same (by simp [apply_ite State.cpsr])

theorem statusKept_thumbLoad {n : Width} {load : Word → State → Word × State} (hl : IsLoad n load) (rd : LowReg) (a : Word)
    (s : State) : StatusKept s e (thumbLoad load rd a s) := .same (by rw [setX_cpsr, hl.cpsr_eq])

theorem statusKept_pushBody (b : Bool) (list : BitVec 8) (s : State) : StatusKept s e (pushBody b list s) :=
  .same (by rw [setX_cpsr, writeWords_cpsr])

theorem statusKept_popBody (b : Bool) (list : BitVec 8) (s : State) : StatusKept s e (popBody b list s) :=
  .same (by simp [apply_ite State.cpsr])

theorem statusKept_stmiaBody (rb : LowReg) (list : BitVec 8) (a : Word) (s : State) :
    StatusKept s e (stmiaBody rb list a s) := .same (by rw [setX_cpsr, writeWords_cpsr])

theorem statusKept_ldmiaBody (rb : LowReg) (list : BitVec 8) (s : State) : StatusKept s e (ldmiaBody rb list s) :=
  .same (by simp [apply_ite State.cpsr])

theorem statusKept_thumbBranchIf (c : Cond) (off : BitVec 9) (s : State) : StatusKept s e (thumbBranchIf c off s) :=
  .same (by simp [apply_ite State.cpsr])

end

/-! ## Every instruction -/

/-- What each instruction changes of the status word, by the body its row shares with others. -/
theorem statusKept_exec (i : Instr) (s : State) : StatusKept s (Instr.status s.cfg i) (exec i s) := by
  unfold exec
  cases i with
  | andImm | andShImm | andShReg | eorImm | eorShImm | eorShReg | orrImm | orrShImm | orrShReg | movImm | movShImm | movShReg
  | bicImm | bicShImm | bicShReg | mvnImm | mvnShImm | mvnShReg
  | subImm | subShImm | subShReg | rsbImm | rsbShImm | rsbShReg | addImm | addShImm | addShReg | adcImm | adcShImm | adcShReg
  | sbcImm | sbcShImm | sbcShReg | rscImm | rscShImm | rscShReg =>
    exact statusKept_dpWrite (fun _ _ _ _ _ => by rfl) ..
  | tstImm | tstShImm | tstShReg | teqImm | teqShImm | teqShReg | cmpImm | cmpShImm | cmpShReg | cmnImm | cmnShImm | cmnShReg =>
    exact statusKept_dpCompare (fun _ _ _ _ _ => by rfl) ..
  | mrs => exact statusKept_execMrs ..
  | msrReg | msrImm => exact .armExec (statusKept_psrWrite ..)
  | bx => exact .armExec (.next rfl)
  | b => exact .armExec (.same rfl)
  | bl => exact .armExec (.same (setX_cpsr ..))
  | ldrImm | ldrReg => exact .armExec (statusKept_transferLoad loadWord_isLoad ..)
  | ldrbImm | ldrbReg => exact .armExec (statusKept_transferLoad loadByte_isLoad ..)
  | ldrhReg | ldrhImm => exact .armExec (.unlisted (statusKept_transferLoad loadHalf_isLoad ..))
  | ldrsbReg | ldrsbImm => exact .armExec (.unlisted (statusKept_transferLoad loadSignedByte_isLoad ..))
  | ldrshReg | ldrshImm => exact .armExec (.unlisted (statusKept_transferLoad loadSignedHalf_isLoad ..))
  | strImm | strReg | strbImm | strbReg => exact .armExec (statusKept_transferStore ..)
  | strhImm | strhReg => exact .armExec (.unlisted (statusKept_transferStore ..))
  | ldm => exact .armExec (statusKept_blockLoad ..)
  | stm => exact .armExec (statusKept_blockStore ..)
  | swp => exact .armExec (.unlisted (statusKept_swapBody loadWord_isLoad ..))
  | swpb => exact .armExec (.unlisted (statusKept_swapBody loadByte_isLoad ..))
  | mul | mla => exact .armExec (.unlisted (statusKept_mulFinish ..))
  | umull | umlal | smull | smlal => exact .armExec (.unlisted (statusKept_longMulFinish ..))
  | swi => exact .armExec (statusKept_raiseSwi ..)
  | undefArch | undefCopTransfer | undefCopOp | undefDoubleword => exact .armExec (statusKept_raiseUndefined ..)
  | tLslImm | tLsrImm | tAsrImm | tLsl | tLsr | tAsr | tRor => exact .thumbExec (statusKept_flagsThenReg (keeps_setNZC ..) ..)
  | tAddReg | tSubReg | tAddImm3 | tSubImm3 | tAddImm8 | tSubImm8 | tAdc | tSbc | tNeg =>
    exact .thumbExec (statusKept_flagsThenReg (keeps_setNZCV ..) ..)
  | tMovImm8 | tAnd | tEor | tOrr | tBic | tMvn => exact .thumbExec (statusKept_flagsThenReg (keeps_setNZ ..) ..)
  | tMul => exact .thumbExec (.unlisted (statusKept_flagsThenReg (keeps_setNZ ..) ..))
  | tCmpImm8 | tCmp | tCmn | tCmpHi => exact .thumbExec (.next (keeps_setNZCV ..))
  | tTst => exact .thumbExec (.next (keeps_setNZ ..))
  | tBx => exact .thumbExec (.next rfl)
  | tAddHi | tMovHi => exact .thumbExec (.same (writeReg_cpsr ..))
  | tAddPc | tAddSp | tAddSpPos | tAddSpNeg | tBlHi | tBlLo => exact .thumbExec (.same (setX_cpsr ..))
  | tB => exact .thumbExec (.same rfl)
  | tBeq | tBne | tBcs | tBcc | tBmi | tBpl | tBvs | tBvc | tBhi | tBls | tBge | tBlt | tBgt | tBle => exact statusKept_thumbBranchIf ..
  | tLdrPc | tLdrReg | tLdrImm | tLdrSp => exact .thumbExec (statusKept_thumbLoad loadWord_isLoad ..)
  | tLdrbReg | tLdrbImm => exact .thumbExec (statusKept_thumbLoad loadByte_isLoad ..)
  | tLdrhReg | tLdrhImm => exact .thumbExec (.unlisted (statusKept_thumbLoad loadHalf_isLoad ..))
  | tLdsbReg => exact .thumbExec (.unlisted (statusKept_thumbLoad loadSignedByte_isLoad ..))
  | tLdshReg => exact .thumbExec (.unlisted (statusKept_thumbLoad loadSignedHalf_isLoad ..))
  | tStrReg | tStrbReg | tStrImm | tStrbImm | tStrSp => exact .thumbExec (.same (memWrite_cpsr ..))
  | tStrhReg | tStrhImm => exact .thumbExec (.unlisted (.same (memWrite_cpsr ..)))
  | tPush => exact .thumbExec (statusKept_pushBody ..)
  | tPop => exact .thumbExec (statusKept_popBody ..)
  | tStmia => exact .thumbExec (statusKept_stmiaBody ..)
  | tLdmia => exact .thumbExec (statusKept_ldmiaBody ..)
  | tSwi => exact .thumbExec (statusKept_raiseSwi ..)
  | tUndefBxH1 | tUndefB1 | tUndefB2 | tUndefB6 | tUndefB8 | tUndefBe | tUndefCond14 | tUndefBlxSuffix =>
    exact .thumbExec (statusKept_raiseUndefined ..)

/-- Settles O49: each instruction by its body, whose effect is the one of the instruction's own table. -/
theorem statusFrame : Obligations.StatusFrame := by
  unfold Obligations.StatusFrame
  exact fun i s => (statusKept_exec i s).kept

end Sys2Proof.Machine
end

section
/-! SUPPORT. O21, O26 (spec/40_execution_common.md R165 to R168, spec/41_data_processing.md R200): the barrel shifter by bit position and
by multiplication and division, and the operands of data processing. -/

namespace Sys2Proof.Machine

open Sys2Proof.Claims

/-! ## A shift by a register amount, in the library's shifts -/

/-- Bit `j` of a word rotated right by `k` is the bit `k` places up, modulo 32. -/
theorem rotateRight_getLsbD (m : Word) {k j : Nat} (hj : j < 32) : (m.rotateRight k).getLsbD j = m.getLsbD ((j + k) % 32) := by
  rw [BitVec.getLsbD_rotateRight, Bool.cond_decide]
  by_cases h : j < 32 - k % 32
  · rw [if_pos h, show (j + k) % 32 = k % 32 + j by omega]
  · rw [if_neg h, show (j + k) % 32 = j - (32 - k % 32) by omega, decide_eq_true hj, Bool.true_and]

/-- From 32 places on, an arithmetic shift right leaves the sign everywhere. -/
theorem signFill_eq_sshiftRight (m : Word) {k : Nat} (hk : 32 ≤ k) : signFill m = m.sshiftRight k := by
  apply BitVec.eq_of_getLsbD_eq
  intro j hj
  rw [BitVec.getLsbD_sshiftRight, if_neg (by omega), BitVec.msb_eq_getLsbD_last, decide_eq_false (by omega), signFill]
  cases m.getLsbD 31 with
  | false => exact BitVec.getLsbD_zero
  | true => exact BitVec.getLsbD_allOnes.trans (decide_eq_true hj)

section
variable (n : BitVec 8) (m : Word) (cin : Bool)

theorem shiftReg_zero (ty : ShiftType) : shiftReg ty 0#8 m cin = (m, cin) := rfl

theorem shiftReg_lsl_value : (shiftReg .lsl n m cin).1 = m <<< n.toNat := by
  by_cases h0 : n.toNat = 0
  · simp only [shiftReg, h0, if_true, BitVec.shiftLeft_zero]
  by_cases hlt : n.toNat < 32
  · simp only [shiftReg, h0, hlt, if_true, if_false]
  · simp only [shiftReg, h0, hlt, if_false, BitVec.shiftLeft_eq_zero (Nat.le_of_not_lt hlt), apply_ite Prod.fst, ite_self]

theorem shiftReg_lsr_value : (shiftReg .lsr n m cin).1 = m >>> n.toNat := by
  by_cases h0 : n.toNat = 0
  · simp only [shiftReg, h0, if_true, BitVec.ushiftRight_zero]
  by_cases hlt : n.toNat < 32
  · simp only [shiftReg, h0, hlt, if_true, if_false]
  · simp only [shiftReg, h0, hlt, if_false, BitVec.ushiftRight_eq_zero (Nat.le_of_not_lt hlt), apply_ite Prod.fst, ite_self]

theorem shiftReg_asr_value : (shiftReg .asr n m cin).1 = m.sshiftRight n.toNat := by
  by_cases h0 : n.toNat = 0
  · simp only [shiftReg, h0, if_true, BitVec.sshiftRight_zero]
  by_cases hlt : n.toNat < 32
  · simp only [shiftReg, h0, hlt, if_true, if_false]
  · simp only [shiftReg, h0, hlt, if_false, signFill_eq_sshiftRight m (Nat.le_of_not_lt hlt)]

theorem shiftReg_ror_value : (shiftReg .ror n m cin).1 = m.rotateRight n.toNat := by
  have hrotate : m.rotateRight (n.toNat % 32) = m.rotateRight n.toNat := BitVec.rotateRight_mod_eq_rotateRight
  have hzero : m.rotateRight 0 = m := BitVec.eq_of_getLsbD_eq fun j hj => by
    rw [rotateRight_getLsbD m hj, Nat.add_zero, Nat.mod_eq_of_lt hj]
  by_cases h0 : n.toNat = 0
  · simp only [shiftReg, h0, if_true, hzero]
  by_cases hr : n.toNat % 32 = 0
  · rw [← hrotate, hr, hzero]; simp only [shiftReg, h0, hr, if_true, if_false]
  · simp only [shiftReg, h0, hr, if_false, hrotate]

/-! ## The carry of a shift by a register amount -/

theorem shiftReg_lsl_carry (hn : n ≠ 0#8) :
    (shiftReg .lsl n m cin).2 = (decide (n.toNat ≤ 32) && m.getLsbD (32 - n.toNat)) := by
  have h0 := (BitVec.toNat_pos_of_ne_zero hn).ne'
  rcases Nat.lt_trichotomy n.toNat 32 with h | h | h
  · simp [shiftReg, h0, h, Nat.le_of_lt h]
  · simp [shiftReg, h]
  · simp [shiftReg, h0, Nat.not_lt_of_gt h, Nat.ne_of_gt h, Nat.not_le_of_gt h]

theorem shiftReg_lsr_carry (hn : n ≠ 0#8) :
    (shiftReg .lsr n m cin).2 = (decide (n.toNat ≤ 32) && m.getLsbD (n.toNat - 1)) := by
  have h0 := (BitVec.toNat_pos_of_ne_zero hn).ne'
  rcases Nat.lt_trichotomy n.toNat 32 with h | h | h
  · simp [shiftReg, h0, h, Nat.le_of_lt h]
  · simp [shiftReg, h]
  · simp [shiftReg, h0, Nat.not_lt_of_gt h, Nat.ne_of_gt h, Nat.not_le_of_gt h]

theorem shiftReg_asr_carry (hn : n ≠ 0#8) : (shiftReg .asr n m cin).2 = m.getLsbD (min (n.toNat - 1) 31) := by
  have h0 := (BitVec.toNat_pos_of_ne_zero hn).ne'
  by_cases h : n.toNat < 32
  · rw [Nat.min_eq_left (by omega)]; simp only [shiftReg, h0, h, if_true, if_false]
  · rw [Nat.min_eq_right (by omega)]; simp only [shiftReg, h0, h, if_false]

theorem shiftReg_ror_carry (hn : n ≠ 0#8) : (shiftReg .ror n m cin).2 = m.getLsbD ((n.toNat + 31) % 32) := by
  have h0 := (BitVec.toNat_pos_of_ne_zero hn).ne'
  by_cases hr : n.toNat % 32 = 0
  · rw [show (n.toNat + 31) % 32 = 31 by omega]; simp only [shiftReg, h0, hr, if_true, if_false]
  · rw [show (n.toNat + 31) % 32 = n.toNat % 32 - 1 by omega]; simp only [shiftReg, h0, hr, if_false]

end

/-! ## A shift by an immediate is a shift by a register amount, but for RRX -/

theorem toNat_amount (n : BitVec 5) : (n.setWidth 8).toNat = n.toNat := by
  rw [BitVec.toNat_setWidth, Nat.mod_eq_of_lt (by omega)]

theorem shiftImm_of_ne (ty : ShiftType) {n : BitVec 5} (hn : n ≠ 0#5) (m : Word) (cin : Bool) :
    shiftImm ty n m cin = shiftReg ty (n.setWidth 8) m cin := by
  have h0 := (BitVec.toNat_pos_of_ne_zero hn).ne'
  have hlt : n.toNat < 32 := n.isLt
  have hmod : n.toNat % 32 = n.toNat := Nat.mod_eq_of_lt hlt
  cases ty <;> simp only [shiftImm, shiftReg, toNat_amount, h0, hlt, hmod, if_true, if_false]

/-- The amount that LSR and ASR by an immediate shift by: 0 means 32 (40_execution_common.md R166). -/
def rightAmount (n : BitVec 5) : BitVec 8 := if n = 0#5 then 32#8 else n.setWidth 8

theorem toNat_rightAmount (n : BitVec 5) : (rightAmount n).toNat = if n = 0#5 then 32 else n.toNat := by
  unfold rightAmount
  split
  · rfl
  · exact toNat_amount n

theorem rightAmount_ne_zero (n : BitVec 5) : rightAmount n ≠ 0#8 := by
  revert n; decide

theorem shiftImm_lsl (n : BitVec 5) (m : Word) (cin : Bool) : shiftImm .lsl n m cin = shiftReg .lsl (n.setWidth 8) m cin := by
  by_cases hn : n = 0#5
  · subst hn; rfl
  · exact shiftImm_of_ne .lsl hn m cin

theorem shiftImm_lsr (n : BitVec 5) (m : Word) (cin : Bool) : shiftImm .lsr n m cin = shiftReg .lsr (rightAmount n) m cin := by
  unfold rightAmount
  split
  · next hn => subst hn; rfl
  · next hn => exact shiftImm_of_ne .lsr hn m cin

theorem shiftImm_asr (n : BitVec 5) (m : Word) (cin : Bool) : shiftImm .asr n m cin = shiftReg .asr (rightAmount n) m cin := by
  unfold rightAmount
  split
  · next hn => subst hn; rfl
  · next hn => exact shiftImm_of_ne .asr hn m cin

/-- ROR by the immediate 0 is RRX: the carry in, then the word moved down by one (40_execution_common.md R166). -/
theorem shiftImm_rrx_getLsbD (m : Word) (cin : Bool) {j : Nat} (hj : j < 32) :
    (shiftImm .ror 0#5 m cin).1.getLsbD j = if j = 31 then cin else m.getLsbD (j + 1) := by
  have hvalue : (shiftImm .ror 0#5 m cin).1 = (if cin then 0x80000000#32 else 0#32) ||| (m >>> 1) := rfl
  have hcarry : (if cin then 0x80000000#32 else 0#32).getLsbD j = (decide (j = 31) && cin) := by
    cases cin
    · simp
    · interval_cases j <;> rfl
  rw [hvalue, BitVec.getLsbD_or, hcarry, BitVec.getLsbD_ushiftRight, Nat.add_comm 1 j]
  split
  · next h => subst h; simp
  · next h => simp [h]

/-! ## Values by multiplication and division -/

theorem toNat_shiftReg_lsl (n : BitVec 8) (m : Word) (cin : Bool) :
    (shiftReg .lsl n m cin).1.toNat = m.toNat * 2 ^ n.toNat % 2 ^ 32 := by
  rw [shiftReg_lsl_value, BitVec.toNat_shiftLeft, Nat.shiftLeft_eq]

theorem toNat_shiftReg_lsr (n : BitVec 8) (m : Word) (cin : Bool) :
    (shiftReg .lsr n m cin).1.toNat = m.toNat / 2 ^ n.toNat := by
  rw [shiftReg_lsr_value, BitVec.toNat_ushiftRight, Nat.shiftRight_eq_div_pow]

theorem toInt_shiftReg_asr (n : BitVec 8) (m : Word) (cin : Bool) :
    (shiftReg .asr n m cin).1.toInt = m.toInt / 2 ^ n.toNat := by
  rw [shiftReg_asr_value, BitVec.toInt_sshiftRight, Int.shiftRight_eq_div_pow]; norm_cast

theorem shiftReg_ror_getLsbD (n : BitVec 8) (m : Word) (cin : Bool) {j : Nat} (hj : j < 32) :
    (shiftReg .ror n m cin).1.getLsbD j = m.getLsbD ((j + n.toNat) % 32) := by
  rw [shiftReg_ror_value, rotateRight_getLsbD m hj]

/-- The carry of a right shift by an immediate is the last bit shifted out, bit 31 for the amount 32. -/
theorem shiftImm_right_carry (n : BitVec 5) (m : Word) (cin : Bool) :
    (shiftImm .lsr n m cin).2 = m.getLsbD ((rightAmount n).toNat - 1) ∧
      (shiftImm .asr n m cin).2 = m.getLsbD ((rightAmount n).toNat - 1) := by
  have hle : (rightAmount n).toNat ≤ 32 := by rw [toNat_rightAmount]; split <;> omega
  rw [shiftImm_lsr, shiftImm_asr, shiftReg_lsr_carry _ m cin (rightAmount_ne_zero n),
    shiftReg_asr_carry _ m cin (rightAmount_ne_zero n), decide_eq_true hle, Bool.true_and, Nat.min_eq_left (by omega)]
  exact ⟨rfl, rfl⟩

theorem shiftImm_lsl_carry (n : BitVec 5) (m : Word) (cin : Bool) :
    (shiftImm .lsl n m cin).2 = if n = 0#5 then cin else m.getLsbD (32 - n.toNat) := by
  split
  · next hn => subst hn; rfl
  · next hn => simp only [shiftImm, (BitVec.toNat_pos_of_ne_zero hn).ne', if_false]

/-- Settles O26: a shift by an immediate is one by a register amount, 0 meaning 32 for LSR and ASR, and those are the library's. -/
theorem shifts : Obligations.Shifts := by
  unfold Obligations.Shifts
  refine ⟨fun n m cin => ⟨⟨?_, shiftImm_lsl_carry n m cin⟩, ?_, fun hn => ⟨fun j hj => ?_, ?_⟩, ?_⟩,
    fun n m cin => ⟨?_, fun hn => ?_⟩⟩
  · rw [shiftImm_lsl, toNat_shiftReg_lsl, toNat_amount]
  · obtain ⟨hlsr, hasr⟩ := shiftImm_right_carry n m cin
    rw [← toNat_rightAmount]
    exact ⟨by rw [shiftImm_lsr, toNat_shiftReg_lsr], hlsr, by rw [shiftImm_asr, toInt_shiftReg_asr], hasr⟩
  · rw [shiftImm_of_ne .ror hn, shiftReg_ror_getLsbD _ m cin hj, toNat_amount]
  · simp only [shiftImm, (BitVec.toNat_pos_of_ne_zero hn).ne', if_false]
  · rintro rfl
    refine ⟨fun j hj => ?_, shiftImm_rrx_getLsbD m cin (by decide), rfl⟩
    rw [shiftImm_rrx_getLsbD m cin (by omega), if_neg (by omega)]
  · rintro rfl ty
    exact shiftReg_zero m cin ty
  · exact ⟨⟨toNat_shiftReg_lsl n m cin, shiftReg_lsl_carry n m cin hn⟩,
      ⟨toNat_shiftReg_lsr n m cin, shiftReg_lsr_carry n m cin hn⟩,
      ⟨toInt_shiftReg_asr n m cin, shiftReg_asr_carry n m cin hn⟩,
      fun j hj => shiftReg_ror_getLsbD n m cin hj, shiftReg_ror_carry n m cin hn⟩

/-! ## The operands of data processing -/

theorem rotImm_getLsbD (imm8 : BitVec 8) (rot : BitVec 4) (cin : Bool) {j : Nat} (hj : j < 32) :
    (rotImm imm8 rot cin).1.getLsbD j =
      (decide ((j + 2 * rot.toNat) % 32 < 8) && imm8.getLsbD ((j + 2 * rot.toNat) % 32)) := by
  rw [rotImm, rotateRight_getLsbD _ hj, BitVec.getLsbD_setWidth, decide_eq_true (Nat.mod_lt _ (by decide)), Bool.true_and]
  by_cases h : (j + 2 * rot.toNat) % 32 < 8
  · rw [decide_eq_true h, Bool.true_and]
  · rw [decide_eq_false h, Bool.false_and, BitVec.getLsbD_of_ge _ _ (Nat.le_of_not_lt h)]

/-- The rotated immediate as two shifts (40_execution_common.md R165). -/
theorem secondOperand_imm (rot : BitVec 4) (imm8 : BitVec 8) (s : State) :
    secondOperand (.imm rot imm8) s = rotImm imm8 rot s.cpsr.c := by
  rw [rotImm, BitVec.rotateRight_def, Nat.mod_eq_of_lt (by omega)]; rfl

/-- The amount is bits 7:0 of its register (40_execution_common.md R167). -/
theorem extractLsb'_low_byte (v : Word) : v.extractLsb' 0 8 = v.setWidth 8 := (BitVec.setWidth_eq_extractLsb' (by decide)).symm

/-- Settles O21 (a name apart from the function `secondOperand`): the immediate bit by bit; the registers are read as they are named. -/
theorem secondOperandComputed : Obligations.SecondOperand := by
  unfold Obligations.SecondOperand
  refine fun s rn rm => ⟨fun rot imm8 => ⟨fun j hj => rotImm_getLsbD imm8 rot s.cpsr.c hj, rfl, secondOperand_imm rot imm8 s, rfl⟩,
    fun n ty => ⟨rfl, rfl⟩, fun rs ty => ⟨?_, rfl⟩⟩
  rw [← extractLsb'_low_byte]; rfl

end Sys2Proof.Machine
end

section
/-! SUPPORT. O4: the spec's example words are encodings. O22, O23, O24 (spec/41_data_processing.md R200 to R218): the operations of the
ALU in exact arithmetic, their operands in the state the instruction starts from, and the three ways a result is written. -/

namespace Sys2Proof.Machine

open Sys2Proof.Claims

/-! ## The ALU in exact arithmetic -/

/-- A result of the ALU in the form the statements give it. -/
def outcomeOf (out : AluOut) : Outcome := { result := out.result, carry := out.carry, overflow := out.overflow }

/-- The flags of a result are those of its outcome: N is the sign as a signed number (40_execution_common.md R171). -/
theorem setAluFlags_eq_flags (out : AluOut) (p : Cpsr) : setAluFlags out p = (outcomeOf out).flags p := by
  obtain ⟨r, carry, overflow⟩ := out
  have hsign : r.getLsbD 31 = decide (r.toInt < 0) := by rw [← BitVec.msb_eq_toInt, BitVec.msb_eq_getLsbD_last]
  cases overflow <;> simp only [setAluFlags, setNZC, setNZ, outcomeOf, Outcome.flags, hsign] <;> rfl

theorem outcomeOf_sum (x y : Word) (cin : Bool) : outcomeOf (arithmetic (addWithCarry x y cin)) = sumOf x y cin := by
  simp only [outcomeOf, arithmetic, addWithCarry_result, addWithCarry_overflow]; rfl

/-- Adding the complement with a carry in subtracts, the missing carry being the borrow. -/
theorem outcomeOf_difference (x y : Word) (cin : Bool) :
    outcomeOf (arithmetic (addWithCarry x (~~~y) cin)) = differenceOf x y cin := by
  have hborrow : (if cin then 0#32 else 1#32) = carryWord (!cin) := by cases cin <;> rfl
  have hexact : x.toInt + (~~~y).toInt + cin.toNat = x.toInt - y.toInt - (!cin).toNat := by
    rw [toInt_complement]; cases cin <;> simp <;> omega
  simp only [outcomeOf, arithmetic, addWithCarry_not_result, addWithCarry_not_carry, addWithCarry_overflow, hborrow, hexact]; rfl

/-- The operation of the ALU that an instruction with a destination runs. -/
def dpAlu : DpOp → AluOp
  | .and => aluAnd
  | .eor => aluEor
  | .sub => aluSub
  | .rsb => aluRsb
  | .add => aluAdd
  | .adc => aluAdc
  | .sbc => aluSbc
  | .rsc => aluRsc
  | .orr => aluOrr
  | .mov => aluMov
  | .bic => aluBic
  | .mvn => aluMvn

/-- The operation of the ALU that a comparison runs. -/
def cmpAlu : CmpOp → AluOp
  | .tst => aluTst
  | .teq => aluTeq
  | .cmp => aluCmp
  | .cmn => aluCmn

theorem outcomeOf_dpAlu (k : DpOp) (a : Word) (b : Word × Bool) (cin : Bool) :
    outcomeOf (dpAlu k a b.1 cin b.2) = k.outcome a b cin := by
  cases k with
  | add | adc => exact outcomeOf_sum ..
  | sub | rsb | sbc | rsc => exact outcomeOf_difference ..
  | and | eor | orr | mov | bic | mvn => rfl

theorem outcomeOf_cmpAlu (k : CmpOp) (a : Word) (b : Word × Bool) (cin : Bool) :
    outcomeOf (cmpAlu k a b.1 cin b.2) = k.outcome a b := by
  cases k with
  | cmn => exact outcomeOf_sum ..
  | cmp => exact outcomeOf_difference ..
  | tst | teq => rfl

/-! ## The operands, read after `pc` has moved on -/

theorem xOr_eq_firstOperand (o : Operand2) (rn : Reg) (s : State) : s.xOr (o.pcValue s.cfg s.pc) rn = firstOperand o rn s := by
  cases o <;> rfl

theorem operand2_eq_secondOperand (o : Operand2) (s : State) : operand2 s.pc o s = secondOperand o s := by
  cases o with
  | imm rot imm8 => exact (secondOperand_imm rot imm8 s).symm
  | shImm => rfl
  | shReg rs ty rm => simp only [operand2, extractLsb'_low_byte]; rfl

theorem operand2_withPc (a : Word) (o : Operand2) (q : Word) (s : State) : operand2 a o { s with pc := q } = operand2 a o s := by
  cases o <;> simp only [operand2, xOr_withPc]

theorem aluOn_withPc (f : AluOp) (rn : Reg) (o : Operand2) (q : Word) (s : State) :
    aluOn f rn o s.pc { s with pc := q } = f (firstOperand o rn s) (secondOperand o s).1 s.cpsr.c (secondOperand o s).2 := by
  simp only [aluOn, operand2_withPc, xOr_withPc, xOr_eq_firstOperand, operand2_eq_secondOperand]

theorem outcomeOf_dpRun (k : DpOp) (rn : Reg) (o : Operand2) (q : Word) (s : State) :
    outcomeOf (aluOn (dpAlu k) rn o s.pc { s with pc := q }) = k.run rn o s := by
  rw [aluOn_withPc, outcomeOf_dpAlu]; rfl

theorem outcomeOf_cmpRun (k : CmpOp) (rn : Reg) (o : Operand2) (q : Word) (s : State) :
    outcomeOf (aluOn (cmpAlu k) rn o s.pc { s with pc := q }) = k.run rn o s := by
  rw [aluOn_withPc, outcomeOf_cmpAlu]; rfl

/-! ## Writing the result -/

/-- A register write of the current mode under another `pc` and other flags. -/
theorem setX_withPcCpsr {p : Cpsr} {s : State} (hp : p.mode = s.cpsr.mode) (i : Reg) (v q : Word) :
    ({ s with pc := q, cpsr := p }).setX i v = { (s.setX i v) with pc := q, cpsr := p } := by
  simp only [State.setX, hp, State.setXIn]
  split <;> rfl

/-- Without S into register 15: a jump, masked (40_execution_common.md R172). -/
theorem dpFinish_jump (out : AluOut) (s : State) :
    dpFinish false 15#4 out s = .next { s with pc := pcMask s.cpsr.t (outcomeOf out).result } := rfl

/-- Into another register: the result, and with S the flags. -/
theorem dpFinish_of_ne {rd : Reg} (hrd : rd ≠ 15#4) (sf : Bool) (out : AluOut) (q : Word) (s : State) :
    dpFinish sf rd out { s with pc := q } = .next { (s.setX rd (outcomeOf out).result) with
      pc := q, cpsr := if sf then (outcomeOf out).flags s.cpsr else s.cpsr } := by
  have hmode : ((outcomeOf out).flags s.cpsr).mode = s.cpsr.mode := rfl
  cases sf with
  | false => rw [dpFinish, if_neg Bool.false_ne_true, writeReg_of_ne _ _ _ hrd, setX_withPcCpsr (p := s.cpsr) rfl]; rfl
  | true =>
    rw [dpFinish, if_pos rfl, if_neg hrd, writeReg_of_ne _ _ _ hrd, State.mapCpsr, setAluFlags_eq_flags, setX_withPcCpsr hmode]; rfl

/-- A row of the table of modes gives the mode its number names (10_state.md R23). -/
theorem modeOfBits_of_mem {m : Mode} {b : BitVec 5} (h : (m, b) ∈ modeNumbers) : modeOfBits b = some m := by
  have hrows : ∀ row ∈ modeNumbers, modeOfBits row.2 = some row.1 := by decide
  exact hrows _ h

theorem restoreCpsr_of_legal {s : State} {q : Psr} {m : Mode} (h : s.curSpsr = some q) (hm : (m, q.m) ∈ modeNumbers) :
    restoreCpsr s = .next { s with
      cpsr := { n := q.n, z := q.z, c := q.c, v := q.v, i := q.i, f := q.f, t := q.t, mode := m } } := by
  simp only [restoreCpsr, h, cpsrOfPsr, modeOfBits_of_mem hm]

/-- With S into register 15: the copy of the SPSR first, so that the T it sets masks the jump. -/
theorem dpFinish_return (out : AluOut) {s : State} {q : Psr} {m : Mode} (h : s.curSpsr = some q) (hm : (m, q.m) ∈ modeNumbers) :
    dpFinish true 15#4 out s = .next { s with
      pc := pcMask q.t (outcomeOf out).result
      cpsr := { n := q.n, z := q.z, c := q.c, v := q.v, i := q.i, f := q.f, t := q.t, mode := m } } := by
  simp only [dpFinish, if_true, restoreCpsr_of_legal h hm]; rfl

/-! ## The instructions -/

/-- Every row with a destination runs its operation; MOV and MVN do not use the first operand (R219). -/
theorem exec_dpInstr_eq (k : DpOp) (c : Cond) (sf : Bool) (rn rd : Reg) (o : Operand2) (s : State) :
    exec (k.instr c sf rn rd o) s = dpWrite (dpAlu k) c sf rn rd o s := by
  cases k <;> cases o <;> rfl

theorem exec_dpInstr_pass (k : DpOp) {c : Cond} (sf : Bool) (rn rd : Reg) (o : Operand2) {s : State} (hc : condHolds c s.cpsr = true) :
    exec (k.instr c sf rn rd o) s =
      dpFinish sf rd (aluOn (dpAlu k) rn o s.pc { s with pc := s.pc + 4#32 }) { s with pc := s.pc + 4#32 } := by
  rw [exec_dpInstr_eq, dpWrite, armExec_pass c _ s hc]

theorem exec_cmpInstr_eq (k : CmpOp) (c : Cond) (rn : Reg) (o : Operand2) (s : State) :
    exec (k.instr c rn o) s = dpCompare (cmpAlu k) c rn o s := by
  cases k <;> cases o <;> rfl

/-- Settles O22: the result of the exact arithmetic, written to a register beside the flags or jumped to. -/
theorem dataProcessingResult : Obligations.DataProcessingResult := by
  unfold Obligations.DataProcessingResult
  intro k c rn rd o s hc
  rw [← outcomeOf_dpRun k rn o (s.pc + 4#32) s]
  refine ⟨fun hrd sf => ?_, ?_⟩
  · rw [exec_dpInstr_pass k sf rn rd o hc, dpFinish_of_ne hrd]
  · rw [exec_dpInstr_pass k false rn 15#4 o hc, dpFinish_jump]

/-- Settles O23: S into register 15 copies the SPSR, which holds a legal mode, and jumps to the result. -/
theorem dataProcessingReturn : Obligations.DataProcessingReturn := by
  unfold Obligations.DataProcessingReturn
  intro k c rn o s q m hc hs hm
  have hcur : ({ s with pc := s.pc + 4#32 } : State).curSpsr = some q := hs
  rw [exec_dpInstr_pass k true rn 15#4 o hc, dpFinish_return _ hcur hm, outcomeOf_dpRun]

/-- Settles O24: a comparison is the flags of its outcome. -/
theorem compareResult : Obligations.CompareResult := by
  unfold Obligations.CompareResult
  intro k c rn o s hc
  rw [exec_cmpInstr_eq, dpCompare, armExec_pass c _ s hc, State.mapCpsr, setAluFlags_eq_flags, outcomeOf_cmpRun]

/-- Settles O4: each word is the encoding of its instruction, which the decoder gives back. -/
theorem specWordsDecode : Obligations.SpecWordsDecode := by
  unfold Obligations.SpecWordsDecode
  exact ⟨decodeArm_encode rfl rfl, decodeArm_encode rfl rfl, decodeArm_encode rfl rfl, decodeArm_encode rfl rfl,
    decodeArm_encode rfl rfl, decodeArm_encode rfl rfl, decodeArm_encode rfl rfl, decodeArm_encode rfl rfl,
    decodeThumb_encode rfl rfl, decodeThumb_encode rfl rfl, decodeThumb_encode rfl rfl⟩

end Sys2Proof.Machine
end

section
/-! SUPPORT. O29, O30 (spec/42_single_transfer.md R230 to R237, spec/49_unlisted_families.md R409, R418 to R421): the single loads run
one body and the single stores another, given a load or a width, a destination or source, and an address. -/

namespace Sys2Proof.Machine

open Sys2Proof.Claims

/-! ## The base and the destination -/

@[simp] theorem writeBack_pc (rn : Reg) (d : Address) (s : State) : (writeBack rn d s).pc = s.pc := by
  unfold writeBack; split <;> simp

@[simp] theorem writeBack_mem (rn : Reg) (d : Address) (s : State) : (writeBack rn d s).mem = s.mem := by
  unfold writeBack; split <;> simp

@[simp] theorem writeBack_dev (rn : Reg) (d : Address) (s : State) : (writeBack rn d s).dev = s.dev := by
  unfold writeBack; split <;> simp

@[simp] theorem writeBack_outputs (rn : Reg) (d : Address) (s : State) : (writeBack rn d s).outputs = s.outputs := by
  unfold writeBack; split <;> simp

theorem writeBack_x_base (rn : Reg) (d : Address) (s : State) (hwb : d.wb = true) (hrn : rn ≠ 15#4) :
    (writeBack rn d s).x rn = d.target := by
  rw [writeBack, if_pos hwb, x_setX_same rn _ s hrn]

theorem writeReg_x_same (d : Reg) (v : Word) (s : State) (hd : d ≠ 15#4) : (writeReg d v s).x d = v := by
  rw [writeReg_of_ne d v s hd, x_setX_same d v s hd]

theorem writeReg_x_ne (d i : Reg) (v : Word) (s : State) (h : i ≠ d) (hi : i ≠ 15#4) : (writeReg d v s).x i = s.x i := by
  unfold writeReg
  split
  · exact x_congr i s _ hi rfl rfl
  · exact x_setX_ne d i v s h.symm

/-! ## The writeback, as the statements write it -/

theorem transferAddress_wb (a : Word) (p u w : Bool) (rn : Reg) (off : Word) (s : State) :
    (transferAddress a p u w rn off s).wb = true ↔ writesBack p w rn := by
  simp [transferAddress, writesBack]

/-- The registers a transfer's writeback changes are among the statement's. -/
theorem mem_writtenBack {p u w : Bool} {rn : Reg} {a off : Word} {s : State} {k : Option (Fin 30)}
    (h : k ∈ if (transferAddress a p u w rn off s).wb then [s.sees rn] else []) : k ∈ writtenBack p w rn s := by
  split at h
  · next hwb =>
    obtain ⟨hpw, _⟩ := (transferAddress_wb ..).mp hwb
    have hlist : writtenBack p w rn s = [s.sees rn] := if_pos (by simpa using hpw)
    rwa [hlist]
  · cases h

/-- An instruction of an unlisted family, under `armv4t` and with its condition met, runs its body. -/
theorem armExec_unlisted_pass {c : Cond} (body : Word → State → Result) {s : State} (hc : condHolds c s.cpsr = true)
    (hu : s.cfg.unlisted = .armv4t) : armExec c (unlistedBody body) s = body s.pc { s with pc := s.pc + 4#32 } := by
  rw [armExec_pass c _ s hc, unlistedBody_armv4t body _ { s with pc := s.pc + 4#32 } hu]

/-! ## The ten loads -/

/-- What the body of a load gives: the loaded value wins over the written-back base, and register 15 is a masked jump. -/
theorem transferLoad_result {n : Width} {load : Word → State → Word × State} (hl : IsLoad n load) (rn rd : Reg) (d : Address)
    (s : State) :
    ∃ t, transferLoad load rn rd d s = .next t ∧
      (rd ≠ 15#4 → t.x rd = (load d.addr s).1 ∧ t.pc = s.pc) ∧
      (rd = 15#4 → t.pc = pcMask s.cpsr.t (load d.addr s).1) ∧
      (d.wb = true → rn ≠ 15#4 → rn ≠ rd → t.x rn = d.target) ∧
      keepsRegs (s.sees rd :: (if d.wb then [s.sees rn] else [])) s t ∧ t.cpsr = s.cpsr ∧ t.mem = s.mem ∧ keepsSystem s t ∧
      t.busLast = some (alignDown d.addr n, n) := by
  obtain ⟨t, hnext, hframe⟩ := transferLoad_state n load hl rn rd d s
  obtain ⟨c, e, hload⟩ := hl d.addr s
  have ht : t = writeReg rd (load d.addr s).1 (writeBack rn d (load d.addr s).2) := by injection hnext.symm
  refine ⟨t, hnext, fun hrd => ⟨?_, ?_⟩, fun hrd => ?_, fun hwb hrn hne => ?_, hframe⟩
  · rw [ht, writeReg_x_same rd _ _ hrd]
  · rw [ht, writeReg_of_ne rd _ _ hrd, setX_pc, writeBack_pc, hload]
  · rw [ht, hrd, writeReg_pc, branchTo_pc, writeBack_cpsr, hload]; rfl
  · rw [ht, writeReg_x_ne rd rn _ _ hne hrn, writeBack_x_base rn d _ hwb hrn]

/-- The load a form's instruction runs. -/
def loadOf : LoadForm → Word → State → Word × State
  | .wordImm _ | .wordReg _ _ _ => loadWord
  | .byteImm _ | .byteReg _ _ _ => loadByte
  | .halfImm _ | .halfReg _ => loadHalf
  | .signedByteImm _ | .signedByteReg _ => loadSignedByte
  | .signedHalfImm _ | .signedHalfReg _ => loadSignedHalf

theorem loadOf_isLoad (f : LoadForm) : IsLoad f.width (loadOf f) := by
  cases f with
  | wordImm | wordReg => exact loadWord_isLoad
  | byteImm | byteReg => exact loadByte_isLoad
  | halfImm | halfReg => exact loadHalf_isLoad
  | signedByteImm | signedByteReg => exact loadSignedByte_isLoad
  | signedHalfImm | signedHalfReg => exact loadSignedHalf_isLoad

theorem loadOf_value (f : LoadForm) (a : Word) (s : State) : (loadOf f a s).1 = f.value a s := by
  cases f with
  | wordImm | wordReg => exact loadWord_value a s 0#12
  | byteImm | byteReg => exact loadByte_value a s 0#12
  | halfImm | halfReg => exact loadHalf_value a s 0#8
  | signedByteImm | signedByteReg => exact loadSignedByte_value a s 0#8
  | signedHalfImm | signedHalfReg => exact loadSignedHalf_value a s 0#8

/-- A load whose condition holds, of a listed family or under `armv4t`, runs the shared body, with the program counter moved on. -/
theorem exec_loadForm (f : LoadForm) {c : Cond} (p u w : Bool) (rn rd : Reg) {s : State} (hc : condHolds c s.cpsr = true)
    (h : admits s.cfg (f.instr c p u w rn rd)) :
    exec (f.instr c p u w rn rd) s =
      transferLoad (loadOf f) rn rd (transferAddress s.pc p u w rn (f.offset s) s) { s with pc := s.pc + 4#32 } := by
  cases f with
  | wordImm | byteImm =>
    simp only [LoadForm.instr, exec, execLdrImm, execLdrbImm, armExec_pass c _ s hc, transferAddress_withPc]; rfl
  | wordReg | byteReg =>
    simp only [LoadForm.instr, exec, execLdrReg, execLdrbReg, armExec_pass c _ s hc, transferAddress_withPc, shiftedOffset_withPc]; rfl
  | halfImm | signedByteImm | signedHalfImm =>
    refine (armExec_unlisted_pass _ hc (h rfl)).trans ?_
    simp only [transferAddress_withPc]; rfl
  | halfReg | signedByteReg | signedHalfReg =>
    refine (armExec_unlisted_pass _ hc (h rfl)).trans ?_
    simp only [transferAddress_withPc, xOr_withPc]; rfl

/-- Settles O29: the ten loads run one body, with the load and the offset of their form. -/
theorem singleLoad : Obligations.SingleLoad := by
  unfold Obligations.SingleLoad
  intro f c p u w rn rd s hc hadmits base a v
  obtain ⟨t, hnext, hvalue, hjump, hbase, hregs, hcpsr, hmem, hsystem, hlast⟩ := transferLoad_result (loadOf_isLoad f) rn rd
    (transferAddress s.pc p u w rn (f.offset s) s) { s with pc := s.pc + 4#32 }
  have hv : (loadOf f a { s with pc := s.pc + 4#32 }).1 = v :=
    (loadOf_value f a _).trans (loadForm_value_congr f a rfl rfl rfl rfl)
  refine ⟨t, (exec_loadForm f p u w rn rd hc hadmits).trans hnext, fun hrd => ?_, fun hrd => ?_, fun hwb => ?_, ?_,
    hcpsr, hmem, hsystem, hlast.trans (lastAccess_eq a f.width).symm⟩
  · obtain ⟨hx, hpc⟩ := hvalue hrd
    exact ⟨hx.trans hv, hpc⟩
  · rw [← hv]; exact hjump hrd
  · exact hbase ((transferAddress_wb ..).mpr hwb) hwb.2
  · exact keepsRegs.mono hregs fun k hk => (List.mem_cons.mp hk).elim
      (fun hd => hd ▸ List.mem_cons_self) fun hn => List.mem_cons_of_mem _ (mem_writtenBack hn)

/-! ## A write does not depend on the stored program counter -/

theorem ioWrite16_withPc (off : Nat) (v : Half) (be : BitVec 2) (q : Word) (s : State) :
    ioWrite16 off v be { s with pc := q } = { ioWrite16 off v be s with pc := q } := by
  simp only [ioWrite16]; split <;> rfl

theorem ioWrite_withPc (off : Nat) (n : Width) (v q : Word) (s : State) :
    ioWrite off n v { s with pc := q } = { ioWrite off n v s with pc := q } := by
  cases n <;> simp only [ioWrite, ioWrite16_withPc]

theorem memWrite_withPc (a : Word) (n : Width) (v q : Word) (s : State) :
    memWrite a n v { s with pc := q } = { memWrite a n v s with pc := q } := by
  have hwindow := ioWrite_withPc (offsetOf s.cfg (alignDown a n)) n v q (noteAccess (alignDown a n) n s)
  unfold memWrite
  dsimp only
  split
  case h_4 => exact hwindow
  all_goals rfl

/-- What stores reach does not depend on the program counter before them. -/
theorem storesReach_withPc {ws : List (Word × Width × Word)} {q : Word} {s t : State}
    (h : storesReach ws { s with pc := q } t) : storesReach ws s t := by
  have hfold : ws.foldl (fun u w => memWrite w.1 w.2.1 w.2.2 u) { s with pc := q } =
      { ws.foldl (fun u w => memWrite w.1 w.2.1 w.2.2 u) s with pc := q } :=
    List.foldl_hom (fun u : State => { u with pc := q }) fun u w => memWrite_withPc w.1 w.2.1 w.2.2 q u
  unfold storesReach at h
  rwa [hfold] at h

/-! ## The six stores -/

/-- What the body of a store leaves: the value's bytes in a byte store, the base written back, the rest as the write leaves it. -/
theorem transferStore_result (n : Width) (a : Word) (rn rd : Reg) (d : Address) (s : State) :
    ∃ t, transferStore n a rn rd d s = .next t ∧ t.pc = s.pc ∧ t.cpsr = s.cpsr ∧
      (d.wb = true → rn ≠ 15#4 → t.x rn = d.target) ∧ keepsRegs (if d.wb then [s.sees rn] else []) s t ∧
      (inStore s.cfg d.addr n → bytesAt t.mem (unitKey s.cfg d.addr n) (s.xOr (a + Config.armPcStoreAhead) rd) n) ∧
      keepsBytes (storeKeys s.cfg d.addr n) s t ∧ t.spsr = s.spsr ∧
      storesReach [(d.addr, n, s.xOr (a + Config.armPcStoreAhead) rd)] s t := by
  obtain ⟨t, hnext, hregs, hpc, hcpsr, hspsr, hcfg, hinputs, hbytes⟩ := transferStore_state n a rn rd d s
  have ht : t = writeBack rn d (memWrite d.addr n (s.xOr (a + Config.armPcStoreAhead) rd) s) := by injection hnext.symm
  have hmem : t.mem = (memWrite d.addr n (s.xOr (a + Config.armPcStoreAhead) rd) s).mem := by rw [ht, writeBack_mem]
  have hdev : t.dev = (memWrite d.addr n (s.xOr (a + Config.armPcStoreAhead) rd) s).dev := by rw [ht, writeBack_dev]
  have hout : t.outputs = (memWrite d.addr n (s.xOr (a + Config.armPcStoreAhead) rd) s).outputs := by rw [ht, writeBack_outputs]
  refine ⟨t, hnext, hpc, hcpsr, fun hwb hrn => ?_, hregs, fun hstore => ?_, hbytes, hspsr, hmem, hdev, hout, hcfg, hinputs,
    fun hwindow => ?_⟩
  · rw [ht, writeBack_x_base rn d _ hwb hrn]
  · rw [hmem]; exact memWrite_bytesAt d.addr n _ s hstore
  · rw [hdev, hout]; exact memWrite_dev_of_not_io d.addr n _ s (hwindow _ List.mem_cons_self)

/-- A store whose condition holds, of a listed family or under `armv4t`, runs the shared body, with the program counter moved on. -/
theorem exec_storeForm (f : StoreForm) {c : Cond} (p u w : Bool) (rn rd : Reg) {s : State} (hc : condHolds c s.cpsr = true)
    (h : admits s.cfg (f.instr c p u w rn rd)) :
    exec (f.instr c p u w rn rd) s =
      transferStore f.width s.pc rn rd (transferAddress s.pc p u w rn (f.offset s) s) { s with pc := s.pc + 4#32 } := by
  cases f with
  | wordImm | byteImm =>
    simp only [StoreForm.instr, exec, execStrImm, execStrbImm, armExec_pass c _ s hc, transferAddress_withPc]; rfl
  | wordReg | byteReg =>
    simp only [StoreForm.instr, exec, execStrReg, execStrbReg, armExec_pass c _ s hc, transferAddress_withPc, shiftedOffset_withPc]; rfl
  | halfImm =>
    refine (armExec_unlisted_pass _ hc (h rfl)).trans ?_
    simp only [transferAddress_withPc]; rfl
  | halfReg =>
    refine (armExec_unlisted_pass _ hc (h rfl)).trans ?_
    simp only [transferAddress_withPc, xOr_withPc]; rfl

/-- The source of a store, read after `pc` has moved on: register 15 is A + 12. -/
theorem xOr_eq_armLateReg (rd : Reg) (q : Word) (s : State) :
    ({ s with pc := q }).xOr (s.pc + Config.armPcStoreAhead) rd = armLateReg rd s := xOr_withPc _ rd q s

/-- Settles O30: the six stores run one body, with the width and the offset of their form. -/
theorem singleStore : Obligations.SingleStore := by
  unfold Obligations.SingleStore
  intro f c p u w rn rd s hc hadmits base a
  obtain ⟨t, hnext, hpc, hcpsr, hbase, hregs, hstored, hbytes, hspsr, hreach⟩ := transferStore_result f.width s.pc rn rd
    (transferAddress s.pc p u w rn (f.offset s) s) { s with pc := s.pc + 4#32 }
  rw [xOr_eq_armLateReg] at hstored hreach
  exact ⟨t, (exec_storeForm f p u w rn rd hc hadmits).trans hnext, hpc, hcpsr,
    fun hwb => hbase ((transferAddress_wb ..).mpr hwb) hwb.2, keepsRegs.mono hregs fun k => mem_writtenBack, hstored, hbytes, hspsr,
    storesReach_withPc hreach⟩

end Sys2Proof.Machine
end

section
/-! SUPPORT. O31, O32 (spec/43_block_transfer.md R250 to R255): the list and the addresses of a block transfer, and the word that each
listed register gets in a block load, whatever view it is written in. -/

namespace Sys2Proof.Machine

open Sys2Proof.Claims

/-! ## The registers and addresses of a block -/

theorem mem_regList {list : BitVec 16} {i : Reg} : i ∈ regList list ↔ list.getLsbD i.toNat = true := by
  simp only [regList, List.mem_map, List.mem_filter, List.mem_range]
  constructor
  · rintro ⟨j, ⟨hj, hbit⟩, rfl⟩
    rwa [BitVec.toNat_ofNat, Nat.mod_eq_of_lt hj]
  · exact fun h => ⟨i.toNat, ⟨i.isLt, h⟩, by simp⟩

theorem nodup_regList (list : BitVec 16) : (regList list).Nodup := by
  have hnumbers : ((List.range 16).map (BitVec.ofNat 4)).Nodup := by decide
  exact hnumbers.sublist (List.filter_sublist.map _)

/-- The start address and the written-back base, as the statements write them (R250). -/
theorem blockAddress_eq (base : Word) (p u : Bool) (n : Nat) :
    blockAddress base p u n = (blockStart base p u n, blockFinal base u n) := by
  cases p <;> cases u <;> simp [blockAddress, blockStart, blockFinal]

/-- The base of a block transfer, read after `pc` has moved on. -/
theorem xOr_eq_armReg (rn : Reg) (q : Word) (s : State) :
    ({ s with pc := q }).xOr (s.pc + s.cfg.armPcAhead) rn = armReg rn s := xOr_withPc _ rn q s

theorem wordAt_add_four (a : Word) (k : Nat) : wordAt a k + 4#32 = wordAt a (k + 1) := by
  apply BitVec.eq_of_toNat_eq
  simp only [wordAt, BitVec.toNat_add, BitVec.toNat_ofNat]
  omega

/-! ## Register reads that an operation keeps -/

theorem keepsRegs.xIn {ks : List (Option (Fin 30))} {s t : State} (h : keepsRegs ks s t) {m : Mode} {i : Reg} (hi : i ≠ 15#4)
    (hk : physIndex m i ∉ ks) : t.xIn m i = s.xIn m i := by
  obtain ⟨k, hphys⟩ := Option.ne_none_iff_exists'.mp (fun e => hi ((physIndex_eq_none m i).mp e))
  rw [hphys] at hk
  simp only [State.xIn, hphys, h k hk]

/-- A list of register writes, in any view, leaves a register that no number of the list names. -/
theorem xIn_setRegs_of_notMem {l : List (Reg × Word)} {i : Reg} (hi : i ≠ 15#4) (h : ∀ p ∈ l, p.1 ≠ i) (m m' : Mode) (s : State) :
    (setRegs m l s).xIn m' i = s.xIn m' i := by
  refine (keepsRegs_setRegs m l s).xIn hi fun hmem => ?_
  obtain ⟨p, hp, hphys⟩ := List.mem_map.mp hmem
  exact h p hp (eq_of_physIndex_eq hi hphys.symm).symm

/-- The k-th of distinct registers gets the k-th value. -/
theorem xIn_setRegs_zip (m : Mode) {regs : List Reg} (hnodup : regs.Nodup) {vs : List Word} (hlen : regs.length = vs.length) {k : Nat}
    {i : Reg} (hk : regs[k]? = some i) (hi : i ≠ 15#4) (s : State) : (setRegs m (regs.zip vs) s).xIn m i = vs.getD k 0#32 := by
  induction regs generalizing vs k s with
  | nil => cases hk
  | cons r rest ih =>
    obtain ⟨hr, hrest⟩ := List.nodup_cons.mp hnodup
    cases vs with
    | nil => cases hlen
    | cons v vs =>
      cases k with
      | zero =>
        obtain rfl : r = i := by simpa using hk
        have hkept : ∀ p ∈ rest.zip vs, p.1 ≠ r := fun p hp e => hr (e ▸ (List.of_mem_zip hp).1)
        calc (setRegs m (rest.zip vs) (s.setXIn m r v)).xIn m r
            = (s.setXIn m r v).xIn m r := xIn_setRegs_of_notMem hi hkept m m _
          _ = v := by rw [xIn_setXIn m m r r v s hi hi, if_pos rfl]
      | succ k => exact ih hrest (by simpa using hlen) (by simpa using hk) (s.setXIn m r v)

/-! ## A read does not depend on the stored program counter -/

theorem ioRead16_withPc (off : Nat) (q : Word) (s : State) :
    ioRead16 off { s with pc := q } = ((ioRead16 off s).1, { (ioRead16 off s).2 with pc := q }) := by
  simp only [ioRead16]; split <;> rfl

theorem ioRead_withPc (off : Nat) (n : Width) (q : Word) (s : State) :
    ioRead off n { s with pc := q } = ((ioRead off n s).1, { (ioRead off n s).2 with pc := q }) := by
  cases n <;> simp only [ioRead, ioRead16_withPc]

theorem memRead_withPc (a : Word) (n : Width) (q : Word) (s : State) :
    memRead a n { s with pc := q } = ((memRead a n s).1, { (memRead a n s).2 with pc := q }) := by
  have hwindow := ioRead_withPc (offsetOf s.cfg (alignDown a n)) n q (noteAccess (alignDown a n) n s)
  unfold memRead
  dsimp only
  split
  case h_2 => exact hwindow
  all_goals rfl

theorem readWords_withPc (k : Nat) (a q : Word) (s : State) :
    readWords k a { s with pc := q } = ((readWords k a s).1, { (readWords k a s).2 with pc := q }) := by
  induction k generalizing a s with
  | zero => rfl
  | succ k ih => simp only [readWords, memRead_withPc, ih]

/-! ## Block loads -/

/-- A block load up to register 15: the reads, the writeback, and the listed registers in the view of a mode (R253). -/
def blockLoaded (view : Mode) (start final : Word) (w : Bool) (rn : Reg) (list : BitVec 16) (s : State) : State :=
  let r := readWords (regList list).length start s
  setRegs view ((regList list).zip r.1) (if w && !list.getLsbD rn.toNat && rn != 15#4 then r.2.setX rn final else r.2)

section
variable (view : Mode) (start final : Word) (w : Bool) (rn : Reg) (list : BitVec 16) (s : State)

/-- Everything a block load up to register 15 can change: the registers and the accounting of its accesses. -/
theorem blockLoaded_state : ∃ r c b d,
    blockLoaded view start final w rn list s = { s with regs := r, cycles := c, busLast := b, draws := d } := by
  obtain ⟨c, b, d, hread⟩ := readWords_state (regList list).length start s
  unfold blockLoaded
  dsimp only
  obtain ⟨r, hregs⟩ := setRegs_state view _ (if w && !list.getLsbD rn.toNat && rn != 15#4
    then (readWords (regList list).length start s).2.setX rn final else (readWords (regList list).length start s).2)
  refine ⟨r, c, b, d, hregs.trans ?_⟩
  split
  · rw [hread]; unfold State.setX State.setXIn; split <;> rfl
  · rw [hread]

theorem blockLoaded_xIn_listed {k : Nat} {i : Reg} (hk : (regList list)[k]? = some i) (hi : i ≠ 15#4) :
    (blockLoaded view start final w rn list s).xIn view i = (readWords (regList list).length start s).1.getD k 0#32 :=
  xIn_setRegs_zip view (nodup_regList list) (readWords_length ..).symm hk hi _

theorem blockLoaded_xIn_base (hw : w = true) (hlist : list.getLsbD rn.toNat = false) (hrn : rn ≠ 15#4) :
    (blockLoaded view start final w rn list s).xIn s.cpsr.mode rn = final := by
  have hkept : ∀ p ∈ (regList list).zip (readWords (regList list).length start s).1, p.1 ≠ rn := by
    rintro p hp rfl
    rw [mem_regList.mp (List.of_mem_zip hp).1] at hlist
    cases hlist
  have hx := x_setX_same rn final (readWords (regList list).length start s).2 hrn
  rw [State.x, setX_cpsr, readWords_cpsr] at hx
  rw [blockLoaded, xIn_setRegs_of_notMem hrn hkept, if_pos (by simp [hw, hlist, hrn])]
  exact hx

end

/-- The word for register 15 is the last one read. -/
theorem readWords_getLastD (n : Nat) (a : Word) (s : State) :
    (readWords n a s).1.getLastD 0#32 = (readWords n a s).1.getD (n - 1) 0#32 := by
  rw [List.getLastD_eq_getLast?, List.getLast?_eq_getElem?, readWords_length, List.getD_eq_getElem?_getD]

/-- What a block load up to register 15 leaves: the words in the listed registers of a view, the base written back, and all but the
registers, the program counter and the accounting as it was. -/
structure LoadsBlock (view : Mode) (start final : Word) (w : Bool) (rn : Reg) (list : BitVec 16) (s t : State) : Prop where
  listed : ∀ (k : Nat) (i : Reg), (regList list)[k]? = some i → i ≠ 15#4 →
    t.xIn view i = (readWords (regList list).length start s).1.getD k 0#32
  base : w = true → list.getLsbD rn.toNat = false → rn ≠ 15#4 → t.xIn s.cpsr.mode rn = final
  cpsr : t.cpsr = s.cpsr
  mem : t.mem = s.mem
  system : keepsSystem s t

theorem loadsBlock_blockLoaded (view : Mode) (start final : Word) (w : Bool) (rn : Reg) (list : BitVec 16) (q : Word) (s : State) :
    LoadsBlock view start final w rn list s (blockLoaded view start final w rn list { s with pc := q }) := by
  obtain ⟨r, c, b, d, ht⟩ := blockLoaded_state view start final w rn list { s with pc := q }
  refine ⟨fun k i hk hi => ?_, blockLoaded_xIn_base view start final w rn list { s with pc := q }, ?_, ?_, ?_⟩
  · rw [blockLoaded_xIn_listed view start final w rn list _ hk hi, readWords_withPc]
  all_goals rw [ht]
  exact ⟨rfl, rfl, rfl, rfl⟩

/-- LDM, its condition met: the registers below 15, then register 15, after the copy of the SPSR with the S bit (R253, R254). -/
theorem exec_ldm_pass {c : Cond} (p u sbit w : Bool) (rn : Reg) (list : BitVec 16) {s : State} (hc : condHolds c s.cpsr = true) :
    let n := (regList list).length
    let base := armReg rn s
    let v := (readWords n (blockStart base p u n) s).1.getD (n - 1) 0#32
    ∃ t, LoadsBlock (if sbit && !list.getLsbD 15 then .user else s.cpsr.mode) (blockStart base p u n) (blockFinal base u n) w rn
        list s t ∧
      t.pc = s.pc + 4#32 ∧
      exec (.ldm c p u sbit w rn list) s =
        if list.getLsbD 15 then
          if sbit then andThen (restoreCpsr t) fun t' => .next (branchTo v t') else .next (branchTo v t)
        else .next t := by
  intro n base v
  have hmode : ∀ b a x, (if b = true then (readWords n a { s with pc := s.pc + 4#32 }).2.setX rn x
      else (readWords n a { s with pc := s.pc + 4#32 }).2).cpsr.mode = s.cpsr.mode := fun b a x => by
    split
    · rw [setX_cpsr, readWords_cpsr]
    · rw [readWords_cpsr]
  obtain ⟨r, cy, b, d, hstate⟩ := blockLoaded_state (if sbit && !list.getLsbD 15 then .user else s.cpsr.mode) (blockStart base p u n)
    (blockFinal base u n) w rn list { s with pc := s.pc + 4#32 }
  refine ⟨_, loadsBlock_blockLoaded _ _ _ w rn list (s.pc + 4#32) s, congrArg State.pc hstate, ?_⟩
  change armExec c (blockLoad p u sbit w rn list) s = _
  rw [armExec_pass c _ s hc]
  simp only [blockLoad, xOr_eq_armReg, blockAddress_eq, hmode, readWords_getLastD, n]
  simp only [v, readWords_withPc, blockLoaded, n, base]

/-- Settles O31: the registers below 15 as for every block load, then the jump, masked by the T in force. -/
theorem blockLoadResult : Obligations.BlockLoad := by
  unfold Obligations.BlockLoad
  intro c p u sbit w rn list s hc hs n base vs view
  obtain ⟨t, hloads, hpc, hexec⟩ := exec_ldm_pass p u sbit w rn list hc
  have hview : (if sbit && !list.getLsbD 15 then Mode.user else s.cpsr.mode) = view := by
    obtain rfl | hl := hs
    · rfl
    · rw [hl, Bool.not_false, Bool.and_true]
  have hnext : exec (.ldm c p u sbit w rn list) s = .next
      { t with pc := if list.getLsbD 15 then pcMask s.cpsr.t (vs.getD (n - 1) 0#32) else s.pc + 4#32 } := by
    rw [hexec]
    cases hl : list.getLsbD 15 with
    | true =>
      obtain rfl : sbit = false := hs.resolve_right (by simp [hl])
      rw [if_pos rfl, if_neg Bool.false_ne_true, branchTo, hloads.cpsr]; rfl
    | false => rw [if_neg Bool.false_ne_true, if_neg Bool.false_ne_true, ← hpc]
  have hregs := registerFrame _ s _ hnext
  rw [hview] at hloads
  refine ⟨_, hnext, fun k i hk hi => ?_, fun hw hlist hrn => ?_, rfl, ?_, hloads.cpsr, hloads.mem, hloads.system⟩
  · exact (xIn_congr view i t _ hi (by rfl)).trans (hloads.listed k i hk hi)
  · exact (xIn_congr s.cpsr.mode rn t _ hrn (by rfl)).trans (hloads.base hw hlist hrn)
  · rw [← hview]; exact hregs

/-- Settles O32: the registers below 15 as for every block load, then the copy of the SPSR, whose T masks the jump. -/
theorem blockLoadReturn : Obligations.BlockLoadReturn := by
  unfold Obligations.BlockLoadReturn
  intro c p u w rn list s q m hc hl hq hm n base vs
  obtain ⟨t, hloads, _, hexec⟩ := exec_ldm_pass p u true w rn list hc
  have hview : (if true && !list.getLsbD 15 then Mode.user else s.cpsr.mode) = s.cpsr.mode := by rw [hl]; rfl
  rw [hview] at hloads
  have hspsr : t.curSpsr = some q := by rw [State.curSpsr, hloads.cpsr, hloads.system.1, hq]
  rw [if_pos hl, if_pos rfl, restoreCpsr_of_legal hspsr hm] at hexec
  have hregs := registerFrame _ s _ hexec
  refine ⟨_, hexec, rfl, rfl, fun k i hk hi => ?_, fun hw hlist hrn => ?_, ?_, hloads.mem, hloads.system⟩
  · exact (xIn_congr s.cpsr.mode i t _ hi (by rfl)).trans (hloads.listed k i hk hi)
  · exact (xIn_congr s.cpsr.mode rn t _ hrn (by rfl)).trans (hloads.base hw hlist hrn)
  · rw [← hview]; exact hregs

end Sys2Proof.Machine
end

section
/-! SUPPORT. O33 (spec/43_block_transfer.md R250 to R254, spec/20_memory.md R81): a run of word writes as a list of stores, the word that
stands after it, and the values of STM by position in the list. -/

namespace Sys2Proof.Machine

open Sys2Proof.Claims

/-! ## A list of stores -/

/-- What a list of stores (address, width, value) leaves, one after another. -/
def runStores (ws : List (Word × Width × Word)) (s : State) : State := ws.foldl (fun u w => memWrite w.1 w.2.1 w.2.2 u) s

theorem systemKept_runStores {saved : Prop} (ws : List (Word × Width × Word)) (s : State) :
    SystemKept saved (ws.map fun w => (w.1, w.2.1)) s (runStores ws s) := by
  induction ws generalizing s with
  | nil => exact .refl s
  | cons w ws ih => exact (systemKept_memWrite w.1 w.2.1 w.2.2 s).trans (ih (memWrite w.1 w.2.1 w.2.2 s))

theorem runStores_pc (ws : List (Word × Width × Word)) (s : State) : (runStores ws s).pc = s.pc := by
  induction ws generalizing s with
  | nil => rfl
  | cons w ws ih => exact (ih _).trans (memWrite_pc ..)

theorem runStores_cpsr (ws : List (Word × Width × Word)) (s : State) : (runStores ws s).cpsr = s.cpsr := by
  induction ws generalizing s with
  | nil => rfl
  | cons w ws ih => exact (ih _).trans (memWrite_cpsr ..)

/-- A state that agrees with what a list of stores leaves, but for registers and accounting, is one that the stores reach. -/
theorem storesReach_of_eq {ws : List (Word × Width × Word)} {s t : State} (hmem : t.mem = (runStores ws s).mem)
    (hdev : t.dev = (runStores ws s).dev) (hout : t.outputs = (runStores ws s).outputs) (hcfg : t.cfg = (runStores ws s).cfg)
    (hin : t.inputs = (runStores ws s).inputs) : storesReach ws s t := by
  obtain ⟨_, hwindow, hcfg', hin'⟩ := systemKept_runStores (saved := False) ws s
  refine ⟨hmem, hdev, hout, hcfg.trans hcfg', hin.trans hin', fun h => ?_⟩
  rw [hdev, hout]
  refine hwindow fun q hq => ?_
  obtain ⟨w, hw, rfl⟩ := List.mem_map.mp hq
  exact h w hw

/-- A run of word writes from the `k`-th word on is a list of stores, each at the word of its position. -/
theorem writeWords_zipIdx (value : Reg → Nat → Word) (regs : List Reg) (start : Word) (k : Nat) (s : State) :
    writeWords ((regs.zipIdx k).map fun p => value p.1 p.2) (wordAt start k) s =
      runStores ((regs.zipIdx k).map fun p => (wordAt start p.2, .word, value p.1 p.2)) s := by
  induction regs generalizing k s with
  | nil => rfl
  | cons i rest ih =>
    simp only [List.zipIdx_cons, List.map_cons, writeWords, wordAt_add_four]
    exact ih (k + 1) _

theorem writeWords_eq_runStores (value : Reg → Nat → Word) (regs : List Reg) (start : Word) (s : State) :
    writeWords (regs.zipIdx.map fun p => value p.1 p.2) start s = runStores (blockStores regs start value) s := by
  have h := writeWords_zipIdx value regs start 0 s
  rwa [wordAt_zero] at h

/-! ## The word that stands after a run of writes -/

theorem mem_wordsFrom {n : Nat} {a : Word} {q : Word × Width} : q ∈ wordsFrom n a ↔ ∃ j < n, q = (wordAt a j, .word) := by
  induction n generalizing a with
  | zero => simp [wordsFrom]
  | succ n ih =>
    rw [wordsFrom, List.mem_cons, ih]
    constructor
    · rintro (rfl | ⟨j, hj, rfl⟩)
      · exact ⟨0, by omega, by rw [wordAt_zero]⟩
      · exact ⟨j + 1, by omega, by rw [wordAt_succ]⟩
    · rintro ⟨j, hj, rfl⟩
      cases j with
      | zero => exact .inl (by rw [wordAt_zero])
      | succ j => exact .inr ⟨j, by omega, by rw [wordAt_succ]⟩

/-- A byte that a store writes lies in a byte store, in the unit stored to. -/
theorem inStore_of_mem_storeKeys {cfg : Cfg} {a : Word} {n : Width} {k : Nat} (h : k ∈ storeKeys cfg a n) :
    inStore cfg a n ∧ unitKey cfg a n ≤ k ∧ k < unitKey cfg a n + n.bytes := by
  cases hkind : (regionOf cfg (alignDown a n)).kind <;> simp only [storeKeys, hkind, List.not_mem_nil] at h
  obtain ⟨j, hj, rfl⟩ := List.mem_map.mp h
  exact ⟨hkind, Nat.le_add_right _ _, Nat.add_lt_add_left (List.mem_range.mp hj) _⟩

/-- The `k`-th word of a run of writes stands in a byte store where no later word overwrites it. -/
theorem writeWords_bytesAt {vs : List Word} {a : Word} {k : Nat} {v : Word} {s : State} (hk : vs[k]? = some v)
    (hstore : inStore s.cfg (wordAt a k) .word) (hlasts : lasts s.cfg (wordAt a) vs.length k .word) :
    bytesAt (writeWords vs a s).mem (unitKey s.cfg (wordAt a k) .word) v .word := by
  induction vs generalizing a k s with
  | nil => cases hk
  | cons w vs ih =>
    have hcfg : (memWrite a .word w s).cfg = s.cfg := memWrite_cfg ..
    rw [writeWords]
    cases k with
    | zero =>
      obtain rfl : w = v := by simpa using hk
      rw [wordAt_zero] at hstore ⊢
      intro j hj
      rw [writeWords_keepsBytes vs (a + 4#32) (memWrite a .word w s), memWrite_bytesAt a .word w s hstore j hj]
      rw [hcfg, List.mem_flatMap]
      rintro ⟨q, hq, hkey⟩
      obtain ⟨i, hi, rfl⟩ := mem_wordsFrom.mp hq
      obtain ⟨hlater, hlow, hhigh⟩ := inStore_of_mem_storeKeys (a := wordAt (a + 4#32) i) (n := .word) hkey
      rw [← wordAt_succ] at hlater hlow hhigh
      have hapart := hlasts (i + 1) (by omega) (by simpa using hi) hlater
      rw [apart, wordAt_zero] at hapart
      omega
    | succ k =>
      have hrest : lasts s.cfg (wordAt (a + 4#32)) vs.length k .word := fun j hj hn => by
        simpa only [wordAt_succ] using hlasts (j + 1) (by omega) (by simpa using hn)
      rw [wordAt_succ] at hstore ⊢
      rw [← hcfg] at hstore hrest ⊢
      exact ih (by simpa using hk) hstore hrest

/-! ## Block stores -/

/-- The values of STM by position, the first of the list at position 0, read after `pc` has moved on (R251, R252, R254). -/
theorem storeValues_eq (sbit w : Bool) (rn : Reg) (base final q : Word) (s : State) (l : List Reg) (k : Nat) :
    storeValues s.pc sbit w rn base final { s with pc := q } (k == 0) l =
      (l.zipIdx k).map fun p => stmValue sbit w rn base final s p.1 p.2 := by
  induction l generalizing k with
  | nil => rfl
  | cons i rest ih =>
    rw [storeValues, List.zipIdx_cons, List.map_cons, ← ih (k + 1)]
    congr 1
    unfold stmValue
    by_cases hi : i = 15#4
    · rw [if_pos hi, if_pos hi]; rfl
    · have huser : ({ s with pc := q }).xUsr i = s.xUsr i := xIn_congr .user i s _ hi rfl
      rw [if_neg hi, if_neg hi, x_withPc i hi, huser]
      cases k <;> cases w <;> rfl

/-- The stores of an STM, lowest address first (R252). -/
def stmStores (p u sbit w : Bool) (rn : Reg) (list : BitVec 16) (s : State) : List (Word × Width × Word) :=
  let n := (regList list).length
  let base := armReg rn s
  blockStores (regList list) (blockStart base p u n) (stmValue sbit w rn base (blockFinal base u n) s)

/-- STM, its condition met: the stores, then the writeback. -/
theorem exec_stm_pass {c : Cond} (p u sbit w : Bool) (rn : Reg) (list : BitVec 16) {s : State} (hc : condHolds c s.cpsr = true) :
    let n := (regList list).length
    let base := armReg rn s
    exec (.stm c p u sbit w rn list) s = .next
      (writeBack rn { addr := blockStart base p u n, target := blockFinal base u n, wb := w && rn != 15#4 }
        (runStores (stmStores p u sbit w rn list s) { s with pc := s.pc + 4#32 })) := by
  intro n base
  change armExec c (blockStore p u sbit w rn list) s = _
  rw [armExec_pass c _ s hc]
  simp only [blockStore, xOr_eq_armReg, blockAddress_eq]
  rw [show true = ((0 : Nat) == 0) from rfl, storeValues_eq, writeWords_eq_runStores]
  rfl

/-- Settles O33: the stores of the list, lowest address first, then the writeback of the base. -/
theorem blockStoreResult : Obligations.BlockStore := by
  unfold Obligations.BlockStore
  intro c p u sbit w rn list s hc n base start
  have hexec := exec_stm_pass p u sbit w rn list hc
  have hregs := registerFrame _ s _ hexec
  have hbytes := memoryFrame _ s _ hexec
  simp only [Instr.storedKeys, Instr.stores, blockAddress_eq] at hbytes
  obtain ⟨hspsr, _, hcfg, hin⟩ := systemKept_writeBack (saved := True) (ws := []) rn
    { addr := start, target := blockFinal base u n, wb := w && rn != 15#4 }
    (runStores (stmStores p u sbit w rn list s) { s with pc := s.pc + 4#32 })
  obtain ⟨hspsr', _⟩ := systemKept_runStores (saved := True) (stmStores p u sbit w rn list s) { s with pc := s.pc + 4#32 }
  refine ⟨_, hexec, ?_, ?_, fun k i hk hstore hlasts => ?_, hbytes, fun hw hrn => ?_, hregs, (hspsr trivial).trans (hspsr' trivial),
    storesReach_withPc (storesReach_of_eq (writeBack_mem ..) (writeBack_dev ..) (writeBack_outputs ..) hcfg hin)⟩
  · rw [writeBack_pc, runStores_pc]
  · rw [writeBack_cpsr, runStores_cpsr]
  · rw [writeBack_mem, stmStores, ← writeWords_eq_runStores]
    refine writeWords_bytesAt (s := { s with pc := s.pc + 4#32 }) ?_ hstore ?_
    · simp only [List.getElem?_map, List.getElem?_zipIdx, hk, Option.map_some, Nat.zero_add]; rfl
    · rwa [List.length_map, List.length_zipIdx]
  · exact writeBack_x_base rn _ _ (by simp [hw, hrn]) hrn

end Sys2Proof.Machine
end

section
/-! SUPPORT. O37 (spec/44_branch.md R270 to R272): where `branch_to` and branch-and-exchange leave the machine, as whole states, and the
three branches of the 32-bit instruction set, their condition met. -/

namespace Sys2Proof.Machine

open Sys2Proof.Claims

/-! ## Jumps as whole states -/

/-- A jump sets `pc`, masked by the current T, and nothing else (40_execution_common.md R172). -/
theorem branchTo_eq (v : Word) (s : State) : branchTo v s = { s with pc := pcMask s.cpsr.t v } := rfl

/-- The instruction set is selected before the target is masked, so the new T masks it (R272). -/
theorem branchExchange_eq (v : Word) (s : State) :
    branchExchange v s = { s with cpsr := { s.cpsr with t := v.getLsbD 0 }, pc := pcMask (v.getLsbD 0) v } := rfl

/-- A register write neither reads nor changes `pc`. -/
theorem setX_withPc (i : Reg) (v q : Word) (s : State) : ({ s with pc := q }).setX i v = { (s.setX i v) with pc := q } := by
  refine (setX_withPcCpsr (p := s.cpsr) rfl i v q).trans ?_
  rw [← setX_cpsr i v s]

/-! ## The three branches -/

/-- B, its condition met (R270). -/
theorem exec_b_pass {c : Cond} (off : BitVec 26) {s : State} (hc : condHolds c s.cpsr = true) :
    exec (.b c off) s = .next { s with pc := pcMask s.cpsr.t (s.pc + s.cfg.armPcAhead + off.signExtend 32) } := by
  change execB c off s = _
  rw [execB, armExec_pass c _ s hc, branchTo_eq]

/-- BL, its condition met: the return address is that of the next instruction (R271). -/
theorem exec_bl_pass {c : Cond} (off : BitVec 26) {s : State} (hc : condHolds c s.cpsr = true) :
    exec (.bl c off) s = .next { (s.setX 14#4 (s.pc + 4#32)) with
      pc := pcMask s.cpsr.t (s.pc + s.cfg.armPcAhead + off.signExtend 32) } := by
  change execBl c off s = _
  simp only [execBl, armExec_pass c _ s hc, setX_withPc, branchTo_eq, setX_cpsr]

/-- BX, its condition met: no link register is written (R272). -/
theorem exec_bx_pass {c : Cond} (rm : Reg) {s : State} (hc : condHolds c s.cpsr = true) :
    exec (.bx c rm) s = .next { s with
      cpsr := { s.cpsr with t := (armReg rm s).getLsbD 0 }
      pc := pcMask ((armReg rm s).getLsbD 0) (armReg rm s) } := by
  change execBx c rm s = _
  rw [execBx, armExec_pass c _ s hc, xOr_eq_armReg, branchExchange_eq]

/-- Settles O37: the body of each branch under a met condition, its jump written as a whole state. -/
theorem armBranches : Obligations.ArmBranches := by
  unfold Obligations.ArmBranches
  exact fun _ _ hc => ⟨fun off => exec_b_pass off hc, fun off => exec_bl_pass off hc, fun rm => exec_bx_pass rm hc⟩

end Sys2Proof.Machine
end

section
/-! SUPPORT. O15, O16, O17 (spec/45_status_transfer.md R280 to R284): the bits that a field mask selects, a status word after a masked
write, and the three transfers as whole next states. -/

namespace Sys2Proof.Machine

open Sys2Proof.Claims

/-! ## A status word as 32 bits -/

/-- Bits 27:8 read as zero (10_state.md R28). -/
theorem psrWord_unimplemented (q : Psr) : (psrWord q).extractLsb' 8 20 = 0#20 := by
  ext i hi
  simp only [psrWord, BitVec.getElem_extractLsb', BitVec.getLsbD_append]
  repeat rw [if_neg (by omega)]
  rw [if_pos (by omega), BitVec.getLsbD_zero, BitVec.getElem_zero]

theorem carries_psrWord (q : Psr) : carries (psrWord q) q := by
  have h := psrOfWord_psrWord q
  exact ⟨congrArg Psr.n h, congrArg Psr.z h, congrArg Psr.c h, congrArg Psr.v h, psrWord_unimplemented q, congrArg Psr.i h,
    congrArg Psr.f h, congrArg Psr.t h, congrArg Psr.m h⟩

theorem modeBits_mem (m : Mode) : (m, modeBits m) ∈ modeNumbers := by cases m <;> decide

/-! ## Masked writes of a status word -/

/-- The implemented bits that the two fields with an effect select: f the flags, c the control bits (R281). -/
def selected (flags control : Bool) : Word := (if flags then 0xF0000000#32 else 0#32) ||| (if control then 0x000000FF#32 else 0#32)

theorem psrMask_eq_selected : ∀ fields : BitVec 4, psrMask fields = selected (fields.getLsbD 3) (fields.getLsbD 0) := by decide

/-- In User mode field c selects nothing (R284). -/
theorem psrMask_user : ∀ fields : BitVec 4, psrMask fields &&& 0xF0000000#32 = selected (fields.getLsbD 3) false := by decide

/-- A saved status word after a masked write of a value. -/
def Psr.written (flags control : Bool) (v : Word) (q : Psr) : Psr :=
  let q := if flags then { q with n := v.getLsbD 31, z := v.getLsbD 30, c := v.getLsbD 29, v := v.getLsbD 28 } else q
  if control then { q with i := v.getLsbD 7, f := v.getLsbD 6, t := v.getLsbD 5, m := v.extractLsb' 0 5 } else q

theorem psrOfWord_merge (flags control : Bool) (old v : Word) :
    psrOfWord ((old &&& ~~~selected flags control) ||| (v &&& selected flags control)) = (psrOfWord old).written flags control v := by
  have hmode (x : BitVec 5) : x &&& 31#5 = x := BitVec.and_allOnes
  cases flags <;> cases control <;>
    simp [psrOfWord, selected, Psr.written, hmode, BitVec.extractLsb'_or, BitVec.extractLsb'_and]

/-- The mask of MSR to the current status word, which User mode cuts to the flags (R284). -/
def currentMask (fields : BitVec 4) (m : Mode) : Word := if m = .user then psrMask fields &&& 0xF0000000#32 else psrMask fields

theorem currentMask_flags {fields : BitVec 4} {m : Mode} (h : fields.getLsbD 0 = false ∨ m = .user) :
    currentMask fields m = selected (fields.getLsbD 3) false := by
  by_cases hu : m = .user
  · rw [currentMask, if_pos hu, psrMask_user]
  · rw [currentMask, if_neg hu, psrMask_eq_selected, h.resolve_right hu]

theorem currentMask_control {fields : BitVec 4} {m : Mode} (hfield : fields.getLsbD 0 = true) (hm : m ≠ .user) :
    currentMask fields m = selected (fields.getLsbD 3) true := by
  rw [currentMask, if_neg hm, psrMask_eq_selected, hfield]

theorem psrWrite_current {fields : BitVec 4} {v : Word} {s : State} {flags control : Bool} {c : Cpsr}
    (hmask : currentMask fields s.cpsr.mode = selected flags control)
    (hc : cpsrOfPsr ((psrOfCpsr s.cpsr).written flags control v) = some c) :
    psrWrite false fields v s = .next { s with cpsr := c } := by
  rw [currentMask] at hmask
  simp only [psrWrite, Bool.false_eq_true, if_false, hmask, psrOfWord_merge, cpsrWord, psrOfWord_psrWord, hc]

/-- MSR to the SPSR writes the fields that the mask selects. -/
theorem psrWrite_saved (fields : BitVec 4) (v : Word) {s : State} {q : Psr} (hq : s.curSpsr = some q) :
    psrWrite true fields v s = .next { s with
      spsr := setSpsrOf s.cpsr.mode (q.written (fields.getLsbD 3) (fields.getLsbD 0) v) s.spsr } := by
  simp only [psrWrite, if_true, hq, psrMask_eq_selected, psrOfWord_merge, psrOfWord_psrWord]

theorem cpsrOfPsr_written_flags (fields : BitVec 4) (v : Word) (p : Cpsr) :
    cpsrOfPsr ((psrOfCpsr p).written (fields.getLsbD 3) false v) = some (msrFlags fields v p) := by
  unfold msrFlags
  cases fields.getLsbD 3 <;> simp [Psr.written, cpsrOfPsr, psrOfCpsr]

theorem cpsrOfPsr_written_control (fields : BitVec 4) {v : Word} {m : Mode} (hm : (m, v.extractLsb' 0 5) ∈ modeNumbers) (p : Cpsr) :
    cpsrOfPsr ((psrOfCpsr p).written (fields.getLsbD 3) true v) =
      some { msrFlags fields v p with i := v.getLsbD 7, f := v.getLsbD 6, t := v.getLsbD 5, mode := m } := by
  unfold msrFlags
  cases fields.getLsbD 3 <;> simp [Psr.written, cpsrOfPsr, psrOfCpsr, modeOfBits_of_mem hm]

/-- Where field c is not selected, and in User mode, MSR writes the flags alone (R281, R284). -/
theorem psrWrite_current_flags {fields : BitVec 4} (v : Word) {s : State} (h : fields.getLsbD 0 = false ∨ s.cpsr.mode = .user) :
    psrWrite false fields v s = .next { s with cpsr := msrFlags fields v s.cpsr } :=
  psrWrite_current (currentMask_flags h) (cpsrOfPsr_written_flags fields v s.cpsr)

/-- Field c in a mode that may write it: a mode number of the seven is the new mode (R281). -/
theorem psrWrite_current_control {fields : BitVec 4} {v : Word} {s : State} {m : Mode} (hfield : fields.getLsbD 0 = true)
    (hmode : s.cpsr.mode ≠ .user) (hm : (m, v.extractLsb' 0 5) ∈ modeNumbers) :
    psrWrite false fields v s = .next { s with
      cpsr := { msrFlags fields v s.cpsr with i := v.getLsbD 7, f := v.getLsbD 6, t := v.getLsbD 5, mode := m } } :=
  psrWrite_current (currentMask_control hfield hmode) (cpsrOfPsr_written_control fields hm s.cpsr)

/-! ## MRS -/

/-- MRS, its condition met, where the status word it reads exists (R280). -/
theorem exec_mrs_pass {c : Cond} (p : Bool) (rd : Reg) {s : State} {q : Psr} (hc : condHolds c s.cpsr = true)
    (hq : (if p then s.curSpsr else some (psrOfCpsr s.cpsr)) = some q) :
    exec (.mrs c p rd) s = .next (writeReg rd (psrWord q) { s with pc := s.pc + 4#32 }) := by
  change execMrs c p rd s = _
  have hspsr : ({ s with pc := s.pc + 4#32 } : State).curSpsr = s.curSpsr := rfl
  rw [execMrs, armExec_pass c _ s hc]
  cases p with
  | false => cases hq; rfl
  | true => rw [if_pos rfl] at hq; simp only [if_true, hspsr, hq]

theorem writeReg_withPc (rd : Reg) (v q : Word) (s : State) :
    writeReg rd v { s with pc := q } =
      if rd = 15#4 then { s with pc := pcMask s.cpsr.t v } else { (s.setX rd v) with pc := q } := by
  rw [writeReg, branchTo_eq, setX_withPc]

/-- Settles O15: the word of the status word read, written as any result is; in a mode without an SPSR there is none to read. -/
theorem mrsResult : Obligations.MrsResult := by
  unfold Obligations.MrsResult
  refine ⟨fun c p rd q s hc hcurrent hsaved => ?_, fun c rd s hc habsent => ?_⟩
  · refine ⟨psrWord q, carries_psrWord q, modeBits_mem _, ?_⟩
    have hq : (if p then s.curSpsr else some (psrOfCpsr s.cpsr)) = some q := by
      cases p with
      | false => rw [hcurrent rfl]; rfl
      | true => exact hsaved rfl
    rw [exec_mrs_pass p rd hc hq, writeReg_withPc]
  · change execMrs c true rd s = _
    rw [execMrs, armExec_pass c _ s hc]
    simp only [State.curSpsr, habsent, if_true]

/-- Settles O16: MSR is one masked write of the current status word. -/
theorem msrCpsrResult : Obligations.MsrCpsrResult := by
  unfold Obligations.MsrCpsrResult
  intro o c fields s hc v
  rw [exec_msrInstr o c false fields s hc]
  exact ⟨fun h => psrWrite_current_flags v h, fun hfield hmode m hm => psrWrite_current_control hfield hmode hm⟩

/-- Settles O17: MSR is one masked write of the SPSR of the current mode. -/
theorem msrSpsrResult : Obligations.MsrSpsrResult := by
  unfold Obligations.MsrSpsrResult
  intro o c fields s q hc hq
  have hpresent : spsrOf s.cpsr.mode s.spsr ≠ none := by simp [hq]
  have hexec := (exec_msrInstr o c true fields s hc).trans (psrWrite_saved fields (o.value s) hq)
  refine ⟨_, q.written (fields.getLsbD 3) (fields.getLsbD 0) (o.value s), hexec, ?_, ⟨?_, ?_⟩, fun m hm => ?_, rfl⟩
  · rw [spsrOf_setSpsrOf, if_pos ⟨rfl, hpresent⟩]
  · cases fields.getLsbD 3 <;> cases fields.getLsbD 0 <;> rfl
  · cases fields.getLsbD 3 <;> cases fields.getLsbD 0 <;> rfl
  · rw [spsrOf_setSpsrOf, if_neg fun h => hm h.1]

end Sys2Proof.Machine
end

section
/-! SUPPORT. O13 (spec/45_status_transfer.md R284, spec/60_exceptions.md R512, R513): in User mode an instruction that is no trap keeps the
control bits, the saved status words and the registers of the other banks; a trap enters its mode or does not run. -/

namespace Sys2Proof.Machine

open Sys2Proof.Claims

/-! ## The control bits -/

/-- The mode and the two masks are unchanged; T and the flags may change. -/
def ControlKept (p q : Cpsr) : Prop := q.mode = p.mode ∧ q.i = p.i ∧ q.f = p.f

theorem controlKept_of_keeps {e : StatusEffect} {p q : Cpsr} (hentry : e ≠ .entry) (hall : e ≠ .everything) (h : e.keeps p q) :
    ControlKept p q := by
  cases e with
  | entry => exact absurd rfl hentry
  | everything => exact absurd rfl hall
  | nothing | signZero | logical | arithmetic | selector => rw [h]; exact ⟨rfl, rfl, rfl⟩

theorem controlKept_setAluFlags (out : AluOut) (p : Cpsr) : ControlKept p (setAluFlags out p) := by
  unfold setAluFlags
  split <;> exact ⟨rfl, rfl, rfl⟩

theorem controlKept_msrFlags (fields : BitVec 4) (v : Word) (p : Cpsr) : ControlKept p (msrFlags fields v p) := by
  unfold msrFlags
  split <;> exact ⟨rfl, rfl, rfl⟩

/-- Every next state of a result has the control bits of `s`. -/
def KeepsControl (s : State) (r : Result) : Prop := ∀ t, r = .next t → ControlKept s.cpsr t.cpsr

theorem KeepsControl.next {s t : State} (h : ControlKept s.cpsr t.cpsr) : KeepsControl s (.next t) := by
  rintro _ ⟨⟩
  exact h

theorem KeepsControl.same {s t : State} (h : t.cpsr = s.cpsr) : KeepsControl s (.next t) := .next (by rw [h]; exact ⟨rfl, rfl, rfl⟩)

theorem KeepsControl.armExec {c : Cond} {body : Word → State → Result} {s : State}
    (h : KeepsControl { s with pc := s.pc + 4#32 } (body s.pc { s with pc := s.pc + 4#32 })) : KeepsControl s (armExec c body s) := by
  cases hc : condHolds c s.cpsr with
  | true => rw [armExec_pass c body s hc]; exact h
  | false => rw [armExec_fail c body s hc]; exact .same rfl

/-! ## Writes of the whole status word in User mode -/

theorem CopiesSpsr.keepsControl {s : State} {r : Result} (h : CopiesSpsr s r) (hu : s.cpsr.mode = .user) : KeepsControl s r := by
  rw [h.absent (spsrOf_eq_none (.inl hu) s.spsr)]
  exact fun _ ht => by cases ht

theorem keepsControl_dpFinish (sf : Bool) (rd : Reg) (out : AluOut) {s : State} (hu : s.cpsr.mode = .user) :
    KeepsControl s (dpFinish sf rd out s) := by
  cases sf with
  | false => exact .same (writeReg_cpsr ..)
  | true =>
    by_cases hrd : rd = 15#4
    · refine CopiesSpsr.keepsControl ⟨s, fun t => .next (writeReg rd out.result t), rfl, rfl, ?_⟩ hu
      rw [dpFinish, if_pos rfl, if_pos hrd]
    · rw [dpFinish, if_pos rfl, if_neg hrd]
      exact .next (by rw [writeReg_cpsr]; exact controlKept_setAluFlags out s.cpsr)

theorem keepsControl_dpWrite (f : AluOp) (c : Cond) (sf : Bool) (rn rd : Reg) (o : Operand2) {s : State} (hu : s.cpsr.mode = .user) :
    KeepsControl s (dpWrite f c sf rn rd o s) := .armExec (keepsControl_dpFinish sf rd _ hu)

theorem keepsControl_blockLoad (p u sbit w : Bool) (rn : Reg) (list : BitVec 16) (a : Word) {s : State} (hu : s.cpsr.mode = .user) :
    KeepsControl s (blockLoad p u sbit w rn list a s) := by
  cases hcopy : sbit && list.getLsbD 15 with
  | true =>
    obtain ⟨rfl, hlist⟩ := Bool.and_eq_true_iff.mp hcopy
    exact (copiesSpsr_blockLoad p u w rn list a s hlist).keepsControl hu
  | false =>
    have hstatus := statusKept_blockLoad p u sbit w rn list a s
    rw [hcopy] at hstatus
    exact fun t ht => controlKept_of_keeps (e := .nothing) nofun nofun (hstatus.kept t ht)

theorem keepsControl_psrWrite (p : Bool) (fields : BitVec 4) (v : Word) {s : State} (hu : s.cpsr.mode = .user) :
    KeepsControl s (psrWrite p fields v s) := by
  cases p with
  | true => exact fun t ht => controlKept_of_keeps (e := .nothing) nofun nofun ((statusKept_psrWrite true fields v s).kept t ht)
  | false => rw [psrWrite_current_flags v (.inr hu)]; exact .next (controlKept_msrFlags fields v s.cpsr)

theorem trapStatus_ne_everything (p : TrapPolicy) : trapStatus p ≠ .everything := by cases p <;> nofun

/-- An instruction that may write the whole status word keeps the control bits in User mode: it copies an SPSR, which that mode has
not, or is MSR, whose field c writes nothing there (45_status_transfer.md R284). -/
theorem keepsControl_exec_of_everything {i : Instr} {s : State} (hall : Instr.status s.cfg i = .everything) (hu : s.cpsr.mode = .user) :
    KeepsControl s (exec i s) := by
  unfold exec
  cases i with
  | andImm | andShImm | andShReg | eorImm | eorShImm | eorShReg | orrImm | orrShImm | orrShReg | movImm | movShImm | movShReg
  | bicImm | bicShImm | bicShReg | mvnImm | mvnShImm | mvnShReg
  | subImm | subShImm | subShReg | rsbImm | rsbShImm | rsbShReg | addImm | addShImm | addShReg | adcImm | adcShImm | adcShReg
  | sbcImm | sbcShImm | sbcShReg | rscImm | rscShImm | rscShReg =>
    exact keepsControl_dpWrite _ _ _ _ _ _ hu
  | msrReg | msrImm => exact .armExec (keepsControl_psrWrite _ _ _ hu)
  | ldm => exact .armExec (keepsControl_blockLoad _ _ _ _ _ _ _ hu)
  | _ => simp [Instr.status, trapStatus_ne_everything, ite_eq_iff] at hall

/-- In User mode every instruction but a trap keeps the control bits. -/
theorem keepsControl_exec {i : Instr} {s : State} (hentry : Instr.status s.cfg i ≠ .entry) (hu : s.cpsr.mode = .user) :
    KeepsControl s (exec i s) := by
  by_cases hall : Instr.status s.cfg i = .everything
  · exact keepsControl_exec_of_everything hall hu
  · exact fun t ht => controlKept_of_keeps hentry hall ((statusKept_exec i s).kept t ht)

/-! ## The saved status words -/

theorem armCond_msrInstr (o : MsrOperand) (c : Cond) (p : Bool) (fields : BitVec 4) : armCond (o.instr c p fields) = some c := by
  cases o <;> rfl

/-- In User mode no instruction but a trap changes a saved status word: MSR to the SPSR does not run there (R30). -/
theorem exec_spsr_of_user {i : Instr} {s t : State} (hentry : Instr.status s.cfg i ≠ .entry) (hu : s.cpsr.mode = .user)
    (h : exec i s = .next t) : t.spsr = s.spsr := by
  by_cases hmsr : ∃ (o : MsrOperand) (c : Cond) (fields : BitVec 4), i = o.instr c true fields
  · obtain ⟨o, c, fields, rfl⟩ := hmsr
    cases hc : condHolds c s.cpsr with
    | true =>
      obtain ⟨_, hrefused, _⟩ := spsrAbsentStops c s hc (.inl hu)
      rw [hrefused o fields] at h
      cases h
    | false =>
      rw [conditionFailed _ c s (armCond_msrInstr o c true fields) hc] at h
      cases h
      rfl
  · obtain ⟨hsaved, _⟩ := (nextKeeps_exec i s).kept t h
    exact hsaved ⟨hentry, fun o c fields hi => hmsr ⟨o, c, fields, hi⟩⟩

/-! ## The registers of User mode -/

/-- Every register of a list is one that a mode sees, or no general register. -/
def SeenIn (m : Mode) (ks : List (Option (Fin 30))) : Prop := ∀ k ∈ ks, ∃ r : Reg, physIndex m r = k

theorem seenIn_nil (m : Mode) : SeenIn m [] := nofun

theorem SeenIn.cons {m : Mode} {ks : List (Option (Fin 30))} (h : SeenIn m ks) (r : Reg) : SeenIn m (physIndex m r :: ks) := by
  rintro k (_ | ⟨_, hk⟩)
  · exact ⟨r, rfl⟩
  · exact h k hk

theorem SeenIn.append {m : Mode} {ks ls : List (Option (Fin 30))} (h : SeenIn m ks) (h' : SeenIn m ls) : SeenIn m (ks ++ ls) :=
  fun k hk => (List.mem_append.mp hk).elim (h k) (h' k)

theorem SeenIn.ite {m : Mode} {c : Prop} [Decidable c] {ks ls : List (Option (Fin 30))} (h : SeenIn m ks) (h' : SeenIn m ls) :
    SeenIn m (if c then ks else ls) := by split <;> assumption

theorem seenIn_one (m : Mode) (r : Reg) : SeenIn m [physIndex m r] := (seenIn_nil m).cons r

theorem seenIn_listed (m : Mode) (list : BitVec 16) : SeenIn m (listed m list) := by
  intro k hk
  obtain ⟨r, _, rfl⟩ := List.mem_map.mp hk
  exact ⟨r, rfl⟩

theorem seenIn_writtenBack (p w : Bool) (rn : Reg) (s : State) : SeenIn s.cpsr.mode (writtenBack p w rn s) :=
  .ite (seenIn_one _ rn) (seenIn_nil _)

theorem seenIn_trapDests {p : TrapPolicy} (h : trapStatus p ≠ .entry) (m m' : Mode) : SeenIn m' (trapDests p m) := by
  cases p with
  | trap => exact absurd rfl h
  | noEffect => exact seenIn_nil m'

/-- In User mode every instruction but a trap writes registers of that view only: LDM with the S bit writes the same view (R254). -/
theorem seenIn_dests {i : Instr} {s : State} (hentry : Instr.status s.cfg i ≠ .entry) (hu : s.cpsr.mode = .user) :
    SeenIn s.cpsr.mode (Instr.dests i s) := by
  cases i with
  | andImm | andShImm | andShReg | eorImm | eorShImm | eorShReg | subImm | subShImm | subShReg | rsbImm | rsbShImm | rsbShReg
  | addImm | addShImm | addShReg | adcImm | adcShImm | adcShReg | sbcImm | sbcShImm | sbcShReg | rscImm | rscShImm | rscShReg
  | orrImm | orrShImm | orrShReg | movImm | movShImm | movShReg | bicImm | bicShImm | bicShReg | mvnImm | mvnShImm | mvnShReg
  | mrs | bl | mul | mla | swp | swpb
  | tLslImm | tLsrImm | tAsrImm | tLsl | tLsr | tAsr | tRor | tAddReg | tSubReg | tAddImm3 | tSubImm3 | tAddImm8 | tSubImm8 | tAdc
  | tSbc | tNeg | tMovImm8 | tAnd | tEor | tOrr | tBic | tMvn | tMul | tAddHi | tMovHi | tAddPc | tAddSp | tAddSpPos | tAddSpNeg
  | tBlHi | tBlLo | tLdrPc | tLdrReg | tLdrImm | tLdrSp | tLdrbReg | tLdrbImm | tLdrhReg | tLdrhImm | tLdsbReg | tLdshReg
  | tPush | tStmia => exact seenIn_one _ _
  | umull | umlal | smull | smlal => exact (seenIn_one _ _).cons _
  | ldrImm | ldrReg | ldrbImm | ldrbReg | ldrhReg | ldrhImm | ldrsbReg | ldrsbImm | ldrshReg | ldrshImm =>
    exact (seenIn_writtenBack _ _ _ s).cons _
  | strImm | strReg | strbImm | strbReg | strhReg | strhImm => exact seenIn_writtenBack _ _ _ s
  | ldm c p u sbit w rn list =>
    refine .append (.ite (seenIn_one _ rn) (seenIn_nil _)) ?_
    rw [hu, ite_self]
    exact seenIn_listed .user list
  | stm => exact .ite (seenIn_one _ _) (seenIn_nil _)
  | tPop | tLdmia => exact (seenIn_listed _ _).cons _
  | swi | tSwi | undefArch | undefCopTransfer | undefCopOp | undefDoubleword
  | tUndefBxH1 | tUndefB1 | tUndefB2 | tUndefB6 | tUndefB8 | tUndefBe | tUndefCond14 | tUndefBlxSuffix =>
    exact seenIn_trapDests hentry _ _
  | tstImm | tstShImm | tstShReg | teqImm | teqShImm | teqShReg | cmpImm | cmpShImm | cmpShReg | cmnImm | cmnShImm | cmnShReg
  | msrReg | msrImm | bx | b | tCmpImm8 | tCmp | tCmn | tCmpHi | tTst | tBx | tB
  | tBeq | tBne | tBcs | tBcc | tBmi | tBpl | tBvs | tBvc | tBhi | tBls | tBge | tBlt | tBgt | tBle
  | tStrReg | tStrbReg | tStrhReg | tStrImm | tStrbImm | tStrhImm | tStrSp => exact seenIn_nil _

/-! ## Traps -/

/-- The two modes that an instruction can enter, each at its vector. -/
def TrapTarget (cfg : Cfg) (m : Mode) (vec : Word) : Prop := (m = .svc ∧ vec = cfg.vector.swi) ∨ (m = .und ∧ vec = cfg.vector.undef)

/-- Every next state of a result is a trap's entry, or differs from `s` in `pc` alone. -/
def TrapsOrSkips (s : State) (r : Result) : Prop :=
  ∀ t, r = .next t → (∃ q, t = { s with pc := q }) ∨ ∃ m vec ret, TrapTarget s.cfg m vec ∧ Entered m vec ret s t

theorem TrapsOrSkips.armExec {c : Cond} {body : Word → State → Result} {s : State}
    (h : TrapsOrSkips { s with pc := s.pc + 4#32 } (body s.pc { s with pc := s.pc + 4#32 })) : TrapsOrSkips s (armExec c body s) := by
  cases hc : condHolds c s.cpsr with
  | true => rw [armExec_pass c body s hc]; exact h
  | false => rw [armExec_fail c body s hc]; exact fun t ht => .inl ⟨_, by cases ht; rfl⟩

theorem trapsOrSkips_enterException {m : Mode} {vec : Word} {s : State} (hm : TrapTarget s.cfg m vec) (ret : Word) :
    TrapsOrSkips s (.next (enterException m vec ret s)) := by
  rintro _ ⟨⟩
  have hne : m ≠ .user ∧ m ≠ .sys := by obtain ⟨rfl, _⟩ | ⟨rfl, _⟩ := hm <;> decide
  exact .inr ⟨m, vec, ret, hm, entered_enterException hne vec ret s⟩

theorem eq_trap_of_entry {p : TrapPolicy} (h : trapStatus p = .entry) : p = .trap := by
  cases p with
  | trap => rfl
  | noEffect => cases h

theorem trapsOrSkips_raiseSwi (ret : Word) {s : State} (h : trapStatus s.cfg.swiPolicy = .entry) : TrapsOrSkips s (raiseSwi ret s) := by
  rw [raiseSwi_eq, if_pos (eq_trap_of_entry h)]
  exact trapsOrSkips_enterException (.inl ⟨rfl, rfl⟩) ret

theorem trapsOrSkips_raiseUndefined (ret : Word) {s : State} (h : trapStatus s.cfg.unrecognizedPolicy = .entry) :
    TrapsOrSkips s (raiseUndefined ret s) := by
  rw [raiseUndefined_eq, if_pos (eq_trap_of_entry h)]
  exact trapsOrSkips_enterException (.inr ⟨rfl, rfl⟩) ret

/-- An instruction that enters a mode enters Supervisor or Undefined mode at its vector, or its condition is not met (R512). -/
theorem trapsOrSkips_exec {i : Instr} {s : State} (hentry : Instr.status s.cfg i = .entry) : TrapsOrSkips s (exec i s) := by
  unfold exec
  cases i with
  | swi => exact .armExec (trapsOrSkips_raiseSwi _ hentry)
  | undefArch | undefCopTransfer | undefCopOp | undefDoubleword => exact .armExec (trapsOrSkips_raiseUndefined _ hentry)
  | tSwi => exact trapsOrSkips_raiseSwi (s := { s with pc := s.pc + 2#32 }) _ hentry
  | tUndefBxH1 | tUndefB1 | tUndefB2 | tUndefB6 | tUndefB8 | tUndefBe | tUndefCond14 | tUndefBlxSuffix =>
    exact trapsOrSkips_raiseUndefined (s := { s with pc := s.pc + 2#32 }) _ hentry
  | _ => simp [Instr.status, ite_eq_iff] at hentry

/-! ## Every instruction -/

/-- Settles O13: a trap enters its mode or skips; every other instruction keeps what the frames of its row and User mode allow. -/
theorem userModeConfined : Obligations.UserModeConfined := by
  unfold Obligations.UserModeConfined
  intro i s t hu h
  by_cases hentry : Instr.status s.cfg i = .entry
  · obtain ⟨q, rfl⟩ | ⟨m, vec, ret, hm, hcpsr, hpc, hsaved, _⟩ := trapsOrSkips_exec hentry t h
    · exact .inl ⟨hu, rfl, rfl, rfl, fun _ _ => rfl⟩
    · obtain ⟨rfl, rfl⟩ | ⟨rfl, rfl⟩ := hm
      · exact .inr (.inl ⟨by rw [hcpsr], hpc, by rw [hcpsr], Option.some.inj hsaved⟩)
      · exact .inr (.inr ⟨by rw [hcpsr], hpc, by rw [hcpsr], Option.some.inj hsaved⟩)
  · obtain ⟨hmode, hi, hf⟩ := keepsControl_exec hentry hu t h
    refine .inl ⟨hmode.trans hu, hi, hf, exec_spsr_of_user hentry hu h, fun k hk => registerFrame i s t h k fun hdest => ?_⟩
    obtain ⟨r, hr⟩ := seenIn_dests hentry hu _ hdest
    exact hk r (hu ▸ hr)

end Sys2Proof.Machine
end

section
/-! SUPPORT. O38, O39, O40, O42 (spec/47_thumb_alu.md R300 to R336, spec/49_unlisted_families.md R411): the flags of compressed mode as
those of an outcome in exact arithmetic, the shared bodies by the outcome they write, and the operands, read after `pc` has moved on. -/

namespace Sys2Proof.Machine

open Sys2Proof.Claims

/-! ## The shared bodies write an outcome -/

/-- An outcome written: its flags to the status word, its result to a low register. -/
def writeOutcome (rd : LowReg) (o : Outcome) (s : State) : State := (s.mapCpsr o.flags).setX (lo rd) o.result

/-- An outcome written once `pc` has moved on, as a whole state. -/
theorem writeOutcome_withPc (rd : LowReg) (o : Outcome) (q : Word) (s : State) :
    writeOutcome rd o { s with pc := q } = { (s.setX (lo rd) o.result) with pc := q, cpsr := o.flags s.cpsr } :=
  setX_withPcCpsr (p := o.flags s.cpsr) rfl (lo rd) o.result q

section
variable (s : State)

theorem mapCpsr_setAluFlags (out : AluOut) : s.mapCpsr (setAluFlags out) = s.mapCpsr (outcomeOf out).flags := by
  rw [State.mapCpsr, setAluFlags_eq_flags]; rfl

theorem mapCpsr_setNZC (r : Word) (carry : Bool) : s.mapCpsr (setNZC r carry) = s.mapCpsr (logicOf r carry).flags :=
  mapCpsr_setAluFlags s (logical r carry)

/-- Without a shifter C is left as it is, which is writing the old C (R302). -/
theorem mapCpsr_setNZ (r : Word) : s.mapCpsr (setNZ r) = s.mapCpsr (logicOf r s.cpsr.c).flags := mapCpsr_setNZC s r s.cpsr.c

theorem mapCpsr_setNZCV (o : AddOut) : s.mapCpsr (setNZCV o) = s.mapCpsr (outcomeOf (arithmetic o)).flags :=
  mapCpsr_setAluFlags s (arithmetic o)

theorem thumbShift_eq (rd : LowReg) (r : Word × Bool) : thumbShift rd r s = .next (writeOutcome rd (logicOf r.1 r.2) s) := by
  rw [thumbShift, mapCpsr_setNZC]; rfl

theorem thumbLogic_eq (rd : LowReg) (r : Word) : thumbLogic rd r s = .next (writeOutcome rd (logicOf r s.cpsr.c) s) := by
  rw [thumbLogic, mapCpsr_setNZ]; rfl

theorem thumbArith_eq (rd : LowReg) (o : AddOut) : thumbArith rd o s = .next (writeOutcome rd (outcomeOf (arithmetic o)) s) := by
  rw [thumbArith, mapCpsr_setNZCV]; rfl

theorem thumbCompare_eq (o : AddOut) : thumbCompare o s = .next (s.mapCpsr (outcomeOf (arithmetic o)).flags) := by
  rw [thumbCompare, mapCpsr_setNZCV]

theorem thumbArith_sum (rd : LowReg) (x y : Word) (cin : Bool) :
    thumbArith rd (addWithCarry x y cin) s = .next (writeOutcome rd (sumOf x y cin) s) := by
  rw [thumbArith_eq, outcomeOf_sum]

theorem thumbArith_difference (rd : LowReg) (x y : Word) (cin : Bool) :
    thumbArith rd (addWithCarry x (~~~y) cin) s = .next (writeOutcome rd (differenceOf x y cin) s) := by
  rw [thumbArith_eq, outcomeOf_difference]

theorem thumbCompare_sum (x y : Word) (cin : Bool) :
    thumbCompare (addWithCarry x y cin) s = .next (s.mapCpsr (sumOf x y cin).flags) := by
  rw [thumbCompare_eq, outcomeOf_sum]

theorem thumbCompare_difference (x y : Word) (cin : Bool) :
    thumbCompare (addWithCarry x (~~~y) cin) s = .next (s.mapCpsr (differenceOf x y cin).flags) := by
  rw [thumbCompare_eq, outcomeOf_difference]

end

/-! ## The operands, read after `pc` has moved on -/

/-- The outcome of an operation depends on the low registers and C, not on `pc`. -/
theorem thumbAlu_run_withPc (k : ThumbAlu) (q : Word) (s : State) : k.run { s with pc := q } = k.run s := by
  have hlow : ∀ r, low r { s with pc := q } = low r s := fun r => low_withPc r q s
  cases k <;> simp only [ThumbAlu.run, amount, hlow]

/-- Register 15 as an operand reads the lead over the instruction's own address (R301). -/
theorem xOr_eq_thumbReg (i : Reg) (q : Word) (s : State) :
    ({ s with pc := q }).xOr (thumbPc s.pc { s with pc := q }) i = thumbReg i s := xOr_withPc _ i q s

/-! ## Operations on the low registers -/

/-- An operation writes its outcome in the state whose `pc` has moved on. -/
theorem exec_thumbAlu (k : ThumbAlu) {s : State} (h : admits s.cfg k.instr) :
    exec k.instr s = .next (writeOutcome k.dest (k.run { s with pc := s.pc + 2#32 }) { s with pc := s.pc + 2#32 }) := by
  cases k with
  | lslImm | lsrImm | asrImm | lsl | lsr | asr | ror => exact thumbShift_eq ..
  | addReg | addImm3 | addImm8 | adc => exact thumbArith_sum ..
  | subReg | subImm3 | subImm8 | sbc | neg => exact thumbArith_difference ..
  | movImm8 | and | eor | orr | bic | mvn => exact thumbLogic_eq ..
  | mul => exact (unlistedBody_armv4t _ _ { s with pc := s.pc + 2#32 } (h rfl)).trans (thumbLogic_eq ..)

/-- Settles O38: the outcome an operation writes is that of the state it starts from. -/
theorem thumbAluResult : Obligations.ThumbAluResult := by
  unfold Obligations.ThumbAluResult
  intro k s h
  rw [exec_thumbAlu k h, thumbAlu_run_withPc, writeOutcome_withPc, lo]

/-- Settles O39: the flags of the outcome; low registers are read as they were, register 15 by its lead. -/
theorem thumbCompareResult : Obligations.ThumbCompareResult := by
  unfold Obligations.ThumbCompareResult
  intro k s
  cases k with
  | cmpImm8 | cmp => exact (thumbCompare_difference ..).trans (by simp only [low_withPc]; rfl)
  | cmn => exact (thumbCompare_sum ..).trans (by simp only [low_withPc]; rfl)
  | tst => exact (congrArg Host.Outcome.next (mapCpsr_setNZ ..)).trans (by simp only [low_withPc]; rfl)
  | cmpHi => exact (thumbCompare_difference ..).trans (by simp only [xOr_eq_thumbReg]; rfl)

/-! ## Operations on the sixteen registers -/

section
variable (rd rs : Reg) (s : State)

/-- ADD on the sixteen registers (R329). -/
theorem exec_tAddHi :
    exec (.tAddHi rd rs) s = .next (writeReg rd (thumbReg rd s + thumbReg rs s) { s with pc := s.pc + 2#32 }) := by
  change execTAddHi rd rs s = _
  simp only [execTAddHi, thumbExec_eq, xOr_eq_thumbReg]

/-- MOV on the sixteen registers (R331). -/
theorem exec_tMovHi : exec (.tMovHi rd rs) s = .next (writeReg rd (thumbReg rs s) { s with pc := s.pc + 2#32 }) := by
  change execTMovHi rd rs s = _
  rw [execTMovHi, thumbExec_eq, xOr_eq_thumbReg]

/-- BX (R332). -/
theorem exec_tBx : exec (.tBx rs) s = .next (branchExchange (thumbReg rs s) { s with pc := s.pc + 2#32 }) := by
  change execTBx rs s = _
  rw [execTBx, thumbExec_eq, xOr_eq_thumbReg]

end

/-- Settles O40: ADD and MOV write their register as any result is written; BX jumps as its 32-bit form does. -/
theorem thumbHighRegister : Obligations.ThumbHighRegister := by
  unfold Obligations.ThumbHighRegister
  refine fun rd rs s => ⟨?_, ?_, ?_⟩
  · rw [exec_tAddHi, writeReg_withPc]
  · rw [exec_tMovHi, writeReg_withPc]
  · rw [exec_tBx, branchExchange_eq]

/-! ## Address computations -/

/-- Settles O42: each computation is one register write; the stack pointer and the lead are read as before `pc` moved on. -/
theorem thumbAddressArithmetic : Obligations.ThumbAddressArithmetic := by
  unfold Obligations.ThumbAddressArithmetic
  refine fun s => ⟨fun rd off => ?_, fun rd off => ?_, fun off => ?_, fun off => ?_⟩
  · change execTAddPc rd off s = _
    rw [execTAddPc, thumbExec_eq, setX_withPc]; rfl
  · change execTAddSp rd off s = _
    rw [execTAddSp, thumbExec_eq, setX_withPc, sp_withPc, lo]
  · change execTAddSpPos off s = _
    rw [execTAddSpPos, thumbExec_eq, setX_withPc, sp_withPc]
  · change execTAddSpNeg off s = _
    rw [execTAddSpNeg, thumbExec_eq, setX_withPc, sp_withPc]

end Sys2Proof.Machine
end

section
/-! SUPPORT. O41 (spec/48_thumb_mem_branch.md R368 to R372): the branches of compressed mode as whole next states, and the one offset that
the two halves of the long branch carry. -/

namespace Sys2Proof.Machine

open Sys2Proof.Claims

/-! ## The three kinds of branch -/

/-- A conditional branch goes to its target or to the next instruction (R368). -/
theorem thumbBranchIf_eq (c : Cond) (off : BitVec 9) (s : State) :
    thumbBranchIf c off s = .next { s with
      pc := if condHolds c s.cpsr then pcMask s.cpsr.t (thumbLead s + off.signExtend 32) else s.pc + 2#32 } := by
  rw [thumbBranchIf, thumbExec_eq]
  cases hc : condHolds c s.cpsr with
  | true => rw [if_pos rfl, if_pos rfl, branchTo_eq]; rfl
  | false => rw [if_neg (by decide), if_neg (by decide)]

theorem exec_thumbBranch {c : Cond} {off : BitVec 9} {i : Instr} (h : thumbBranch c off = some i) (s : State) :
    exec i s = thumbBranchIf c off s := by
  cases c <;> cases h <;> rfl

/-- The first half puts a partial target in the link register (R371). -/
theorem exec_tBlHi (hi : BitVec 11) (s : State) :
    exec (.tBlHi hi) s = .next { (s.setX 14#4 (thumbLead s + (hi.signExtend 32 <<< 12))) with pc := s.pc + 2#32 } := by
  change execTBlHi hi s = _
  rw [execTBlHi, thumbExec_eq, setX_withPc]; rfl

/-- The second half jumps from the link register, which gets the address after it, bit 0 set (R372). -/
theorem exec_tBlLo (lo : BitVec 11) (s : State) :
    exec (.tBlLo lo) s = .next { (s.setX 14#4 ((s.pc + 2#32) ||| 1#32)) with
      pc := pcMask s.cpsr.t (s.x 14#4 + (lo.setWidth 32 <<< 1)) } := by
  change execTBlLo lo s = _
  rw [execTBlLo, thumbExec_eq, setX_withPc, branchTo_eq, x_withPc 14#4 (by decide)]
  simp only [setX_cpsr]

/-! ## The pair -/

/-- The shifted halves, the high one signed, add up to the signed offset they make together, in halfwords. -/
theorem longBranch_offset (hi lo : BitVec 11) :
    (hi.signExtend 32 <<< 12 : Word) + (lo.setWidth 32 <<< 1) = (hi ++ lo : BitVec 22).signExtend 32 <<< 1 := by
  have hbit : ∀ j (h : j < 22), (hi ++ lo : BitVec 22)[j] = if h' : j < 11 then lo[j] else hi[j - 11] := fun j h => BitVec.getElem_append h
  have hmsb : (hi ++ lo : BitVec 22).msb = hi.msb := BitVec.msb_append.trans (by simp)
  rw [BitVec.add_eq_or_of_and_eq_zero]
  · ext i hlt
    interval_cases i <;> simp [BitVec.getElem_signExtend, hbit, hmsb]
  · ext i hlt
    interval_cases i <;> simp

/-- Settles O41: each branch as a whole state; the pair is the two halves, one after the other. -/
theorem thumbBranches : Obligations.ThumbBranches := by
  unfold Obligations.ThumbBranches
  refine ⟨fun c off i s h => ?_, fun off s => ?_, fun hi lo s => ⟨exec_tBlHi hi s, exec_tBlLo lo s, _, _, exec_tBlHi hi s, exec_tBlLo lo _,
    ?_, ?_, ?_, ?_, ?_⟩⟩
  · rw [exec_thumbBranch h, thumbBranchIf_eq]
  · change execTB off s = _
    rw [execTB, thumbExec_eq, branchTo_eq]; rfl
  · change pcMask _ ((State.x 14#4 { s.setX 14#4 _ with pc := _ }) + _) = _
    rw [x_withPc 14#4 (by decide), x_setX_same 14#4 _ _ (by decide), BitVec.add_assoc, longBranch_offset]
    simp only [setX_cpsr]
  · rw [x_withPc 14#4 (by decide), x_setX_same 14#4 _ _ (by decide), BitVec.add_assoc]; rfl
  · simp only [setX_cpsr]
  · exact (keepsRegs_setX 14#4 _ s).trans (keepsRegs_setX 14#4 _ _)
      |>.mono (by simp [State.sees])
  · simp only [setX_mem]

end Sys2Proof.Machine
end

section
/-! SUPPORT. O34, O44, O45, O46 (spec/48_thumb_mem_branch.md R351 to R364, spec/49_unlisted_families.md R407, R408): the stores of
compressed mode and the swaps, a block of stores that a base follows, and the two block loads of compressed mode as block loads. -/

namespace Sys2Proof.Machine

open Sys2Proof.Claims

/-! ## A single store -/

/-- What a write reaches depends on memory, the devices, the outputs and the configuration. -/
theorem memWrite_congr (a : Word) (n : Width) (v : Word) {s t : State} (hmem : t.mem = s.mem) (hdev : t.dev = s.dev)
    (hout : t.outputs = s.outputs) (hcfg : t.cfg = s.cfg) :
    (memWrite a n v t).mem = (memWrite a n v s).mem ∧ (memWrite a n v t).dev = (memWrite a n v s).dev ∧
      (memWrite a n v t).outputs = (memWrite a n v s).outputs := by
  have hio := fun o => ioWrite_congr (s := noteAccess (alignDown a n) n s) (t := noteAccess (alignDown a n) n t) o n v hdev hout hcfg
  have hwindowMem : ∀ o u, (ioWrite o n v u).mem = u.mem := fun o u => by
    obtain ⟨d, p, h⟩ := ioWrite_state o n v u
    rw [h]
  simp only [memWrite, noteAccess_cfg, hcfg]
  split
  case h_4 => exact ⟨by rw [hwindowMem, hwindowMem]; exact hmem, hio _⟩
  case h_5 => exact ⟨by simp only [noteAccess_mem, hmem], hdev, hout⟩
  all_goals exact ⟨hmem, hdev, hout⟩

/-- A compressed-mode store of a listed family, or under `armv4t`, is one write, with the program counter moved on. -/
theorem exec_thumbStore (k : ThumbStore) (rd : LowReg) {s : State} (h : admits s.cfg (k.instr rd)) :
    exec (k.instr rd) s = .next (memWrite (k.address s) k.width (low rd s) { s with pc := s.pc + 2#32 }) := by
  have hbody : ∀ n a, thumbStore n rd a { s with pc := s.pc + 2#32 } = .next (memWrite a n (low rd s) { s with pc := s.pc + 2#32 }) :=
    fun n a => by rw [thumbStore, low_withPc]; rfl
  cases k with
  | reg | byteReg =>
    simp only [ThumbStore.instr, exec, execTStrReg, execTStrbReg, thumbExec_eq, thumbRegAddress_withPc, hbody]; rfl
  | imm | byteImm =>
    simp only [ThumbStore.instr, exec, execTStrImm, execTStrbImm, thumbExec_eq, thumbImmAddress_withPc, hbody]; rfl
  | sp => simp only [ThumbStore.instr, exec, execTStrSp, thumbExec_eq, sp_withPc, hbody]; rfl
  | halfReg =>
    refine (unlistedBody_armv4t _ _ { s with pc := s.pc + 2#32 } (h rfl)).trans ?_
    simp only [thumbRegAddress_withPc, hbody]; rfl
  | halfImm =>
    refine (unlistedBody_armv4t _ _ { s with pc := s.pc + 2#32 } (h rfl)).trans ?_
    simp only [thumbImmAddress_withPc, hbody]; rfl

/-- Settles O44: each store is one write. -/
theorem thumbStoreResult : Obligations.ThumbStoreResult := by
  unfold Obligations.ThumbStoreResult
  intro k rd s h
  refine ⟨_, exec_thumbStore k rd h, memWrite_pc .., memWrite_cpsr .., memWrite_regs .., memWrite_spsr ..,
    fun hstore => memWrite_bytesAt _ _ _ { s with pc := s.pc + 2#32 } hstore, memWrite_keepsBytes _ _ _ { s with pc := s.pc + 2#32 },
    storesReach_withPc (storesReach_of_eq (ws := [_]) rfl rfl rfl rfl rfl)⟩

/-! ## The swaps -/

/-- The body of a swap: the loaded value in its destination, the stored one as one write leaves it, both operands read first (R407). -/
theorem swapBody_result {n : Width} {load : Word → State → Word × State} (hl : IsLoad n load) (rn rd rm : Reg) (q : Word) (s : State) :
    let a := armReg rn s
    let v := (load a { s with pc := q }).1
    ∃ t, swapBody load n rn rd rm s.pc { s with pc := q } = .next t ∧
      (rd ≠ 15#4 → t.x rd = v ∧ t.pc = q) ∧ (rd = 15#4 → t.pc = pcMask s.cpsr.t v) ∧
      (inStore s.cfg a n → bytesAt t.mem (unitKey s.cfg a n) (armReg rm s) n) ∧
      t.cpsr = s.cpsr ∧ t.spsr = s.spsr ∧ storesReach [(a, n, armReg rm s)] s t := by
  intro a v
  obtain ⟨c, d, hload⟩ := hl a { s with pc := q }
  obtain ⟨hmem, hdev, hout⟩ := memWrite_congr a n (armReg rm s) (s := s) (t := (load a { s with pc := q }).2)
    (by rw [hload]) (by rw [hload]) (by rw [hload]) (by rw [hload])
  have hbody : swapBody load n rn rd rm s.pc { s with pc := q } =
      .next (writeReg rd v (memWrite a n (armReg rm s) (load a { s with pc := q }).2)) := by
    simp only [swapBody, mulOperand, xOr_eq_armReg]; rfl
  refine ⟨_, hbody, fun hrd => ⟨writeReg_x_same rd _ _ hrd, ?_⟩, ?_, fun hstore => ?_, ?_, ?_, storesReach_of_eq ?_ ?_ ?_ ?_ ?_⟩
  · rw [writeReg_of_ne _ _ _ hrd, setX_pc, memWrite_pc, hload]
  · rintro rfl
    rw [writeReg_pc, branchTo_pc, memWrite_cpsr, hload]; rfl
  · rw [writeReg_mem, hmem]; exact memWrite_bytesAt a n _ s hstore
  · rw [writeReg_cpsr, memWrite_cpsr, hload]
  · rw [writeReg_spsr, memWrite_spsr, hload]
  · rw [writeReg_mem]; exact hmem
  · rw [writeReg_dev]; exact hdev
  · rw [writeReg_outputs]; exact hout
  · rw [writeReg_cfg, memWrite_cfg, hload]; exact (memWrite_cfg a n (armReg rm s) s).symm
  · rw [writeReg_inputs, memWrite_inputs, hload]; exact (memWrite_inputs a n (armReg rm s) s).symm

/-- Settles O34: both swaps run one body; the loaded value is that of the load of their width. -/
theorem swapResult : Obligations.SwapResult := by
  unfold Obligations.SwapResult
  intro c b rn rd rm s hc hu a n f
  have hv : (loadOf f a { s with pc := s.pc + 4#32 }).1 = f.value a s :=
    (loadOf_value f a _).trans (loadForm_value_congr f a rfl rfl rfl rfl)
  have hload : IsLoad n (loadOf f) := by cases b <;> exact loadOf_isLoad _
  obtain ⟨t, hbody, hvalue, hjump, hstored, hcpsr, hspsr, hreach⟩ := swapBody_result hload rn rd rm (s.pc + 4#32) s
  have hexec : exec (if b then .swpb c rn rd rm else .swp c rn rd rm) s = .next t := by
    cases b <;> exact (armExec_unlisted_pass _ hc hu).trans hbody
  have hregs := registerFrame _ s t hexec
  have hbytes := memoryFrame _ s t hexec
  rw [hv] at hvalue hjump
  refine ⟨t, hexec, hvalue, hjump, hstored, ?_, ?_, hcpsr, hspsr, hreach⟩
  · have ha : mulOperand s.pc rn s = a := xOr_eq_armReg rn s.pc s
    cases b <;> simpa [Instr.storedKeys, Instr.stores, ha, n] using hbytes
  · cases b <;> exact hregs

/-! ## A block of stores, then a register -/

/-- What a block of word stores and then a write of one register leave (R361, R363). -/
theorem blockStores_thenSetX {i : Reg} (hi : i ≠ 15#4) (final : Word) (regs : List Reg) (start : Word) (value : Reg → Nat → Word)
    (q : Word) (s : State) :
    let t := (runStores (blockStores regs start value) { s with pc := q }).setX i final
    t.x i = final ∧ t.pc = q ∧ t.cpsr = s.cpsr ∧
      (∀ (k : Nat) (j : Reg), regs[k]? = some j → inStore s.cfg (wordAt start k) .word →
        lasts s.cfg (wordAt start) regs.length k .word →
        bytesAt t.mem (unitKey s.cfg (wordAt start k) .word) (value j k) .word) ∧
      t.spsr = s.spsr ∧ storesReach (blockStores regs start value) s t := by
  intro t
  obtain ⟨hspsr, _⟩ := systemKept_runStores (saved := True) (blockStores regs start value) { s with pc := q }
  refine ⟨x_setX_same i final _ hi, (setX_pc ..).trans (runStores_pc ..), (setX_cpsr ..).trans (runStores_cpsr ..),
    fun k j hk hstore hlasts => ?_, (setX_spsr ..).trans (hspsr trivial),
    storesReach_withPc (storesReach_of_eq (setX_mem ..) (setX_dev ..) (setX_outputs ..) (setX_cfg ..) (setX_inputs ..))⟩
  rw [setX_mem, ← writeWords_eq_runStores]
  refine writeWords_bytesAt (s := { s with pc := q }) ?_ hstore ?_
  · simp only [List.getElem?_map, List.getElem?_zipIdx, hk, Option.map_some, Nat.zero_add]
  · rwa [List.length_map, List.length_zipIdx]

/-- PUSH: the stores from the lowered stack pointer up, then the stack pointer (R361). -/
theorem exec_tPush (r : Bool) (list : BitVec 8) (s : State) :
    let sp := s.x 13#4 - BitVec.ofNat 32 (4 * (pushList r list).length)
    exec (.tPush r list) s =
      .next ((runStores (blockStores (pushList r list) sp fun i _ => s.x i) { s with pc := s.pc + 2#32 }).setX 13#4 sp) := by
  intro sp
  have hne : ∀ i ∈ pushList r list, i ≠ 15#4 := by
    rintro i hi rfl
    obtain h | h := List.mem_append.mp hi
    · simpa using mem_regList.mp h
    · cases r <;> simp at h
  have hvalues : (pushList r list).map (fun i => ({ s with pc := s.pc + 2#32 } : State).x i) =
      (pushList r list).zipIdx.map fun p => (fun i _ => s.x i : Reg → Nat → Word) p.1 p.2 := by
    calc _ = (pushList r list).map (fun i => s.x i) := List.map_congr_left fun i hi => x_withPc i (hne i hi) _ s
      _ = ((pushList r list).zipIdx.map Prod.fst).map (fun i => s.x i) := by rw [List.zipIdx_map_fst]
      _ = _ := List.map_map
  change thumbExec (fun _ s1 => pushBody r list s1) s = _
  rw [thumbExec_eq, ← writeWords_eq_runStores, ← hvalues]
  simp only [pushBody, sp_withPc]
  rfl

/-- The registers that STMIA stores, its base read before the writeback where it is first (R363). -/
def stmiaValue (rb : LowReg) (final : Word) (s : State) (i : Reg) (k : Nat) : Word :=
  if i = rb.setWidth 4 ∧ k ≠ 0 then final else s.x i

/-- STMIA: the stores from the base up, then the base (R363). -/
theorem exec_tStmia (rb : LowReg) (list : BitVec 8) (s : State) :
    let base := low rb s
    let final := base + BitVec.ofNat 32 (4 * (lowRegList list).length)
    exec (.tStmia rb list) s =
      .next ((runStores (blockStores (lowRegList list) base (stmiaValue rb final s)) { s with pc := s.pc + 2#32 }).setX (lo rb) final) := by
  intro base final
  have hvalues : (lowRegList list).zipIdx.map (fun p => stmValue false true (lo rb) base final s p.1 p.2) =
      (lowRegList list).zipIdx.map (fun p => stmiaValue rb final s p.1 p.2) := by
    refine List.map_congr_left fun p hp => ?_
    have hmem := mem_regList.mp (List.fst_mem_of_mem_zipIdx hp)
    have hpc : p.1 ≠ 15#4 := fun e => by simp [e] at hmem
    have hlo : rb.setWidth 4 = lo rb := rfl
    rw [stmValue, stmiaValue, if_neg hpc, if_neg Bool.false_ne_true, hlo]
    by_cases hb : p.1 = lo rb
    · cases hk : p.2 <;> simp [hb, base, low, hlo]
    · simp [hb]
  change thumbExec (stmiaBody rb list) s = _
  rw [thumbExec_eq]
  simp only [stmiaBody, low_withPc]
  rw [show true = ((0 : Nat) == 0) from rfl, storeValues_eq]
  refine (congrArg (fun vs => Host.Outcome.next ((writeWords vs base { s with pc := s.pc + 2#32 }).setX (lo rb) final)) hvalues).trans ?_
  rw [writeWords_eq_runStores]

/-! ## The block loads -/

theorem blockLoaded_pc (view : Mode) (start final : Word) (w : Bool) (rn : Reg) (list : BitVec 16) (s : State) :
    (blockLoaded view start final w rn list s).pc = s.pc := by
  obtain ⟨_, _, _, _, h⟩ := blockLoaded_state view start final w rn list s
  rw [h]

/-- The list of POP with its register 15 as a list of sixteen bits. -/
def popList (r : Bool) (list : BitVec 8) : BitVec 16 := list.setWidth 16 ||| (if r then 0x8000#16 else 0#16)

theorem popList_getLsbD (r : Bool) (list : BitVec 8) {i : Nat} (hi : i < 15) : (popList r list).getLsbD i = list.getLsbD i := by
  have h15 : (if r then 0x8000#16 else 0#16 : BitVec 16).getLsbD i = false := by
    cases r
    · exact BitVec.getLsbD_zero
    · interval_cases i <;> rfl
  rw [popList, BitVec.getLsbD_or, h15, Bool.or_false, BitVec.getLsbD_setWidth, decide_eq_true (by omega), Bool.true_and]

theorem regList_popList (r : Bool) (list : BitVec 8) : regList (popList r list) = lowRegList list ++ (if r then [15#4] else []) := by
  have hsplit : List.range 16 = List.range 15 ++ [15] := rfl
  have hlow : (List.range 15).filter (fun i => (popList r list).getLsbD i) = (List.range 15).filter (fun i => (list.setWidth 16).getLsbD i) :=
    List.filter_congr fun i hi => by
      have := List.mem_range.mp hi
      rw [popList_getLsbD r list this, BitVec.getLsbD_setWidth]
      simp [show i < 16 by omega]
  rw [lowRegList, regList, regList, hsplit, List.filter_append, List.filter_append, hlow]
  cases r <;> simp [popList]

/-- POP is a block load that writes the stack pointer back, then a masked jump where register 15 is listed (R362). -/
theorem exec_tPop (r : Bool) (list : BitVec 8) (s : State) :
    let n := (regList (popList r list)).length
    ∃ t, LoadsBlock s.cpsr.mode (s.x 13#4) (s.x 13#4 + BitVec.ofNat 32 (4 * n)) true 13#4 (popList r list) s t ∧
      exec (.tPop r list) s = .next { t with
        pc := if r then pcMask s.cpsr.t ((readWords n (s.x 13#4) s).1.getD (n - 1) 0#32) else s.pc + 2#32 } := by
  intro n
  let t := blockLoaded s.cpsr.mode (s.x 13#4) (s.x 13#4 + BitVec.ofNat 32 (4 * n)) true 13#4 (popList r list) { s with pc := s.pc + 2#32 }
  have hloads := loadsBlock_blockLoaded s.cpsr.mode (s.x 13#4) (s.x 13#4 + BitVec.ofNat 32 (4 * n)) true 13#4 (popList r list)
    (s.pc + 2#32) s
  have hpc : t.pc = s.pc + 2#32 := blockLoaded_pc ..
  have hsp : (true && !(popList r list).getLsbD (13#4).toNat && 13#4 != 15#4) = true := by
    rw [popList_getLsbD r list (by decide)]; simp
  have hbody : exec (.tPop r list) s =
      .next (if r then branchTo ((readWords n (s.x 13#4) s).1.getD (n - 1) 0#32) t else t) := by
    change thumbExec (fun _ s1 => popBody r list s1) s = _
    rw [thumbExec_eq]
    simp only [popBody, ← regList_popList, sp_withPc, readWords_getLastD, setX_cpsr, readWords_cpsr]
    simp only [t, blockLoaded, hsp, if_true, readWords_withPc]
    rfl
  refine ⟨t, hloads, ?_⟩
  rw [hbody]
  cases r with
  | true => rw [if_pos rfl, if_pos rfl, branchTo_eq, hloads.cpsr]
  | false => rw [if_neg Bool.false_ne_true, if_neg Bool.false_ne_true, ← hpc]

/-- The base's bit in a list of eight registers read as a list of sixteen. -/
theorem lowRegList_base (rb : LowReg) (list : BitVec 8) : (list.setWidth 16).getLsbD (lo rb).toNat = list.getLsbD rb.toNat := by
  have hrb : (lo rb).toNat = rb.toNat := by simp [lo]; omega
  have := rb.isLt
  simp [hrb, show rb.toNat < 16 by omega]

/-- LDMIA is a block load that writes its base back (R364). -/
theorem exec_tLdmia (rb : LowReg) (list : BitVec 8) (s : State) :
    exec (.tLdmia rb list) s = .next (blockLoaded s.cpsr.mode (low rb s) (low rb s + BitVec.ofNat 32 (4 * (lowRegList list).length)) true
      (lo rb) (list.setWidth 16) { s with pc := s.pc + 2#32 }) := by
  have hbase : (true && !(list.setWidth 16).getLsbD (lo rb).toNat && lo rb != 15#4) = !list.getLsbD rb.toNat := by
    rw [lowRegList_base, bne_iff_ne.mpr (lo_ne_pc rb), Bool.true_and, Bool.and_true]
  change thumbExec (fun _ s1 => ldmiaBody rb list s1) s = _
  rw [thumbExec_eq]
  simp only [ldmiaBody, blockLoaded, hbase, low_withPc]
  cases list.getLsbD rb.toNat <;> simp [setX_cpsr, readWords_cpsr] <;> rfl

theorem ne_pc_of_mem_lowRegList {list : BitVec 8} {i : Reg} (h : i ∈ lowRegList list) : i ≠ 15#4 := by
  rintro rfl
  simpa using mem_regList.mp h

theorem LoadsBlock.x_listed {start final : Word} {w : Bool} {rn : Reg} {list : BitVec 16} {s t : State}
    (h : LoadsBlock s.cpsr.mode start final w rn list s t) {k : Nat} {i : Reg} (hk : (regList list)[k]? = some i) (hi : i ≠ 15#4) :
    t.x i = (readWords (regList list).length start s).1.getD k 0#32 := by
  rw [State.x, h.cpsr]; exact h.listed k i hk hi

theorem LoadsBlock.x_base {view : Mode} {start final : Word} {rn : Reg} {list : BitVec 16} {s t : State}
    (h : LoadsBlock view start final true rn list s t) (hlist : list.getLsbD rn.toNat = false) (hrn : rn ≠ 15#4) : t.x rn = final := by
  rw [State.x, h.cpsr]; exact h.base rfl hlist hrn

/-! ## The four block instructions -/

/-- Settles O45: PUSH is a block of stores and a new stack pointer; POP is a block load whose list may end in register 15. -/
theorem pushPop : Obligations.PushPop := by
  unfold Obligations.PushPop
  refine fun r list s => ⟨?_, ?_⟩
  · intro n sp
    have hexec := exec_tPush r list s
    obtain ⟨hx, hpc, hcpsr, hwords, hspsr, hreach⟩ := blockStores_thenSetX (by decide : (13#4 : Reg) ≠ 15#4) sp (pushList r list) sp
      (fun i _ => s.x i) (s.pc + 2#32) s
    exact ⟨_, hexec, hx, hpc, hcpsr, hwords, memoryFrame _ s _ hexec, registerFrame _ s _ hexec, hspsr, hreach⟩
  · intro n vs
    have hlength : (regList (popList r list)).length = n := by
      rw [regList_popList, List.length_append]; cases r <;> rfl
    obtain ⟨t, hloads, hnext⟩ := exec_tPop r list s
    rw [hlength] at hloads hnext
    refine ⟨_, hnext, ?_, hloads.cpsr, fun k i hk => ?_, rfl, registerFrame _ s _ hnext, hloads.mem, hloads.system⟩
    · have hsp : (popList r list).getLsbD (13#4).toNat = false := by rw [popList_getLsbD r list (by decide)]; simp
      exact (sp_withPc _ t).trans (hloads.x_base hsp (by decide))
    · have hi := ne_pc_of_mem_lowRegList (List.mem_of_getElem? hk)
      have hpos : (regList (popList r list))[k]? = some i := by
        rw [regList_popList, List.getElem?_append_left (List.getElem?_eq_some_iff.mp hk).1, hk]
      rw [x_withPc i hi, hloads.x_listed hpos hi, hlength]

/-- Settles O46: STMIA is a block of stores and a new base, LDMIA a block load. -/
theorem thumbBlockTransfer : Obligations.ThumbBlockTransfer := by
  unfold Obligations.ThumbBlockTransfer
  intro rb list s n base final
  refine ⟨?_, ?_⟩
  · have hexec := exec_tStmia rb list s
    obtain ⟨hx, hpc, hcpsr, hwords, hspsr, hreach⟩ := blockStores_thenSetX (lo_ne_pc rb) final (lowRegList list) base
      (stmiaValue rb final s) (s.pc + 2#32) s
    exact ⟨_, hexec, hx, hpc, hcpsr, hwords, memoryFrame _ s _ hexec, registerFrame _ s _ hexec, hspsr, hreach⟩
  · intro vs
    have hexec := exec_tLdmia rb list s
    have hloads := loadsBlock_blockLoaded s.cpsr.mode base final true (lo rb) (list.setWidth 16) (s.pc + 2#32) s
    exact ⟨_, hexec, blockLoaded_pc .., hloads.cpsr,
      fun k i hk => hloads.x_listed hk (ne_pc_of_mem_lowRegList (List.mem_of_getElem? hk)),
      fun hlist => hloads.x_base ((lowRegList_base rb list).trans hlist) (lo_ne_pc rb),
      registerFrame _ s _ hexec, hloads.mem, hloads.system⟩

end Sys2Proof.Machine
end

section
/-! SUPPORT. O35, O36 (spec/49_unlisted_families.md R401 to R406): the products of the model as the exact integer results, modulo the width,
and the flags and registers that a multiply leaves. -/

namespace Sys2Proof.Machine

open Sys2Proof.Claims

/-! ## The results -/

theorem unsignedProduct_eq (x y : Word) : unsignedProduct x y = BitVec.ofNat 64 (x.toNat * y.toNat) := by
  rw [unsignedProduct, BitVec.ofNat_mul, BitVec.ofNat_toNat, BitVec.ofNat_toNat]

theorem signedProduct_eq (x y : Word) : signedProduct x y = BitVec.ofInt 64 (x.toInt * y.toInt) := by
  rw [signedProduct, BitVec.ofInt_mul]; rfl

theorem append_eq_ofNat (hi lo : Word) : hi ++ lo = BitVec.ofNat 64 (hi.toNat * 2 ^ 32 + lo.toNat) := by
  apply BitVec.eq_of_toNat_eq
  rw [BitVec.toNat_append, ← Nat.shiftLeft_add_eq_or_of_lt lo.isLt, Nat.shiftLeft_eq, BitVec.toNat_ofNat]
  omega

/-- The high and the low word of a 64-bit result. -/
theorem highWord_eq (r : BitVec 64) : r.extractLsb' 32 32 = BitVec.ofNat 32 (r.toNat / 2 ^ 32) := by
  apply BitVec.eq_of_toNat_eq
  rw [BitVec.extractLsb'_toNat, BitVec.toNat_ofNat, Nat.shiftRight_eq_div_pow]

theorem lowWord_eq (r : BitVec 64) : r.extractLsb' 0 32 = BitVec.ofNat 32 r.toNat := by
  apply BitVec.eq_of_toNat_eq
  rw [BitVec.extractLsb'_toNat, BitVec.toNat_ofNat, Nat.shiftRight_zero]

/-! ## The flags -/

theorem signBit_eq {w : Nat} (r : BitVec w) : r.getLsbD (w - 1) = decide (r.toInt < 0) := by
  rw [← BitVec.msb_eq_toInt, BitVec.msb_eq_getLsbD_last]

theorem setNZ_eq (r : Word) (p : Cpsr) : setNZ r p = { p with n := decide (r.toInt < 0), z := decide (r = 0#32) } := by
  rw [← signBit_eq]; rfl

theorem setNZ64_eq (r : BitVec 64) (p : Cpsr) : setNZ64 r p = { p with n := decide (r.toInt < 0), z := decide (r = 0#64) } := by
  rw [← signBit_eq]; rfl

/-! ## MUL and MLA -/

/-- The end of a short multiply, read after `pc` has moved on: the flags, then the destination (R401). -/
theorem mulFinish_eq (sf : Bool) (rd : Reg) (r q : Word) (s : State) :
    let flags := if sf then { s.cpsr with n := decide (r.toInt < 0), z := decide (r = 0#32) } else s.cpsr
    mulFinish sf rd r { s with pc := q } = .next (
      if rd = 15#4 then { s with cpsr := flags, pc := pcMask s.cpsr.t r } else { (s.setX rd r) with cpsr := flags, pc := q }) := by
  intro flags
  have hmode : flags.mode = s.cpsr.mode := by cases sf <;> rfl
  have hset : flags.t = s.cpsr.t := by cases sf <;> rfl
  have hflags : (if sf then State.mapCpsr (setNZ r) { s with pc := q } else { s with pc := q }) = { s with pc := q, cpsr := flags } := by
    cases sf with
    | true => simp only [State.mapCpsr, setNZ_eq, flags, if_true]
    | false => rfl
  rw [mulFinish, hflags, writeReg, branchTo_eq, setX_withPcCpsr hmode, hset]

/-- Settles O35: the operands of both, their product modulo 2^32, and the end they share. -/
theorem multiplyResult : Obligations.MultiplyResult := by
  unfold Obligations.MultiplyResult
  intro c sf rd rn rs rm acc s hc hu r flags
  rw [← mulFinish_eq]
  cases acc with
  | true =>
    refine (armExec_unlisted_pass _ hc hu).trans ?_
    simp only [mulOperand, xOr_eq_armReg]
    rw [show r = armReg rm s * armReg rs s + armReg rn s by
      simp only [r, if_true, BitVec.ofNat_add, BitVec.ofNat_mul, BitVec.ofNat_toNat, BitVec.setWidth_eq]]
  | false =>
    refine (armExec_unlisted_pass _ hc hu).trans ?_
    simp only [mulOperand, xOr_eq_armReg]
    rw [show r = armReg rm s * armReg rs s by
      simp [r, BitVec.ofNat_mul, BitVec.ofNat_toNat]]

/-! ## The long multiplies -/

/-- Each long multiply ends alike, on the exact result modulo 2^64 (R403 to R406). -/
theorem exec_longMul (k : LongMul) {c : Cond} (sf : Bool) (rdHi rdLo rs rm : Reg) {s : State} (hc : condHolds c s.cpsr = true)
    (hu : s.cfg.unlisted = .armv4t) :
    exec (k.instr c sf rdHi rdLo rs rm) s = longMulFinish sf rdHi rdLo
      (k.result (armReg rm s) (armReg rs s) (armReg rdHi s) (armReg rdLo s)) { s with pc := s.pc + 4#32 } := by
  cases k with
  | umull =>
    change execUmull c sf rdHi rdLo rs rm s = _
    rw [execUmull, armExec_unlisted_pass _ hc hu]
    simp only [mulOperand, xOr_eq_armReg, unsignedProduct_eq, LongMul.result]
  | umlal =>
    change execUmlal c sf rdHi rdLo rs rm s = _
    rw [execUmlal, armExec_unlisted_pass _ hc hu]
    simp only [mulOperand, xOr_eq_armReg, unsignedProduct_eq, accumulator, append_eq_ofNat, LongMul.result, BitVec.ofNat_add]
  | smull =>
    change execSmull c sf rdHi rdLo rs rm s = _
    rw [execSmull, armExec_unlisted_pass _ hc hu]
    simp only [mulOperand, xOr_eq_armReg, signedProduct_eq, LongMul.result]
  | smlal =>
    change execSmlal c sf rdHi rdLo rs rm s = _
    rw [execSmlal, armExec_unlisted_pass _ hc hu, LongMul.result, BitVec.ofInt_add, BitVec.ofInt_natCast, ← append_eq_ofNat,
      ← signedProduct_eq, accumulator]
    simp only [mulOperand, xOr_eq_armReg]

/-- Where two register writes leave `pc`: the later jump wins. -/
theorem writeReg_writeReg_pc (d e : Reg) (v w : Word) (s : State) :
    (writeReg d v (writeReg e w s)).pc =
      if d = 15#4 then pcMask s.cpsr.t v else if e = 15#4 then pcMask s.cpsr.t w else s.pc := by
  have hone : ∀ (i : Reg) (x : Word) (t : State), (writeReg i x t).pc = if i = 15#4 then pcMask t.cpsr.t x else t.pc := fun i x t => by
    rw [writeReg, branchTo_eq]
    split
    · rfl
    · rw [setX_pc]
  rw [hone, hone, writeReg_cpsr]

/-- The state of a long multiply with its flags set, before the two writes (section 3 of 49_unlisted_families.md). -/
def longMulFlagged (sf : Bool) (r : BitVec 64) (q : Word) (s : State) : State :=
  { s with cpsr := if sf then { s.cpsr with n := decide (r.toInt < 0), z := decide (r = 0#64) } else s.cpsr, pc := q }

theorem longMulFinish_eq (sf : Bool) (rdHi rdLo : Reg) (r : BitVec 64) (q : Word) (s : State) :
    longMulFinish sf rdHi rdLo r { s with pc := q } = .next (writeReg rdHi (BitVec.ofNat 32 (r.toNat / 2 ^ 32))
      (writeReg rdLo (BitVec.ofNat 32 r.toNat) (longMulFlagged sf r q s))) := by
  have hflags : (if sf then State.mapCpsr (setNZ64 r) { s with pc := q } else { s with pc := q }) = longMulFlagged sf r q s := by
    cases sf with
    | true => simp only [State.mapCpsr, setNZ64_eq, longMulFlagged, if_true]
    | false => rfl
  rw [longMulFinish, hflags, highWord_eq, lowWord_eq]

/-- Settles O36: the end shared by the four, the low word written before the high one. -/
theorem longMultiplyResult : Obligations.LongMultiplyResult := by
  unfold Obligations.LongMultiplyResult
  intro k c sf rdHi rdLo rs rm s hc hu r hi lo
  have hexec := (exec_longMul k sf rdHi rdLo rs rm hc hu).trans (longMulFinish_eq ..)
  have hregs := registerFrame _ s _ hexec
  have hset : (longMulFlagged sf r (s.pc + 4#32) s).cpsr.t = s.cpsr.t := by cases sf <;> rfl
  refine ⟨_, hexec, fun h => writeReg_x_same rdHi hi _ h, fun hlo hne => ?_, ?_, ?_, ?_, ?_, ?_⟩
  · exact (writeReg_x_ne rdHi rdLo hi _ hne hlo).trans (writeReg_x_same rdLo lo _ hlo)
  · refine (writeReg_writeReg_pc rdHi rdLo hi lo _).trans ?_
    rw [hset]; rfl
  · rw [writeReg_cpsr, writeReg_cpsr]; rfl
  · cases k <;> exact hregs
  · rw [writeReg_mem, writeReg_mem]; rfl
  · simp only [keepsSystem, writeReg_spsr, writeReg_dev, writeReg_cfg, writeReg_inputs]
    exact ⟨rfl, rfl, rfl, rfl⟩

end Sys2Proof.Machine
end

section
/-! SUPPORT. O8, O9, O7, O11, O12 (spec/60_exceptions.md R500 to R511, R520, spec/46_swi_undefined.md R290 to R297): what a trap of each row
answers, the interrupt entry of a step, and the return from an entry. -/

namespace Sys2Proof.Machine

open Sys2Proof.Claims

/-! ## Traps -/

section
variable {s : State} (ret q : Word)

/-- A software interrupt after `pc` has moved on: an entry into Supervisor mode (R501). -/
theorem raiseSwi_trap (h : s.cfg.swiPolicy = .trap) :
    ∃ t, raiseSwi ret { s with pc := q } = .next t ∧ Entered .svc s.cfg.vector.swi ret s t := by
  rw [raiseSwi_eq, if_pos h]
  exact ⟨_, rfl, entered_enterException (by decide) _ _ { s with pc := q }⟩

/-- The policy of no effect (R291). -/
theorem raiseSwi_noEffect (h : s.cfg.swiPolicy = .noEffect) : raiseSwi ret { s with pc := q } = .next { s with pc := q } := by
  rw [raiseSwi_eq, if_neg (by rw [h]; decide)]

/-- An unrecognized row after `pc` has moved on: an entry into Undefined mode (R502). -/
theorem raiseUndefined_trap (h : s.cfg.unrecognizedPolicy = .trap) :
    ∃ t, raiseUndefined ret { s with pc := q } = .next t ∧ Entered .und s.cfg.vector.undef ret s t := by
  rw [raiseUndefined_eq, if_pos h]
  exact ⟨_, rfl, entered_enterException (by decide) _ _ { s with pc := q }⟩

/-- The policy of no effect (R296). -/
theorem raiseUndefined_noEffect (h : s.cfg.unrecognizedPolicy = .noEffect) :
    raiseUndefined ret { s with pc := q } = .next { s with pc := q } := by
  rw [raiseUndefined_eq, if_neg (by rw [h]; decide)]

end

theorem exec_armUndef_pass (k : ArmUndef) {c : Cond} {s : State} (hc : condHolds c s.cpsr = true) :
    exec (k.instr c) s = raiseUndefined (s.pc + 4#32) { s with pc := s.pc + 4#32 } := by
  cases k <;> exact armExec_pass c (fun a s1 => raiseUndefined (a + 4#32) s1) s hc

theorem exec_thumbUndef (k : ThumbUndef) (s : State) : exec k.instr s = raiseUndefined (s.pc + 2#32) { s with pc := s.pc + 2#32 } := by
  cases k <;> rfl

theorem exec_swi_pass {c : Cond} (comment : BitVec 24) {s : State} (hc : condHolds c s.cpsr = true) :
    exec (.swi c comment) s = raiseSwi (s.pc + 4#32) { s with pc := s.pc + 4#32 } :=
  armExec_pass c (fun a s1 => raiseSwi (a + 4#32) s1) s hc

theorem exec_tSwi (imm8 : BitVec 8) (s : State) : exec (.tSwi imm8) s = raiseSwi (s.pc + 2#32) { s with pc := s.pc + 2#32 } := rfl

/-- Settles O8: both instruction sets raise the same interrupt, with the address of their next instruction. -/
theorem softwareInterruptEntry : Obligations.SoftwareInterruptEntry := by
  unfold Obligations.SoftwareInterruptEntry
  refine ⟨fun c comment s hc => ?_, fun imm8 s => ?_⟩
  · rw [exec_swi_pass comment hc]; exact ⟨raiseSwi_trap _ _, raiseSwi_noEffect _ _⟩
  · rw [exec_tSwi]; exact ⟨raiseSwi_trap _ _, raiseSwi_noEffect _ _⟩

/-- Settles O9: the twelve rows are one trap, with the address of their next instruction. -/
theorem undefinedEntry : Obligations.UndefinedEntry := by
  unfold Obligations.UndefinedEntry
  refine ⟨fun k c s hc => ?_, fun k s => ?_⟩
  · rw [exec_armUndef_pass k hc]; exact ⟨raiseUndefined_trap _ _, raiseUndefined_noEffect _ _⟩
  · rw [exec_thumbUndef]; exact ⟨raiseUndefined_trap _ _, raiseUndefined_noEffect _ _⟩

/-! ## The interrupt entry -/

theorem eq_zero_iff_getLsbD {w : Nat} (x : BitVec w) : x = 0#w ↔ ∀ k < w, x.getLsbD k = false := by
  refine ⟨fun h k _ => by rw [h, BitVec.getLsbD_zero], fun h => BitVec.eq_of_getLsbD_eq fun k hk => ?_⟩
  rw [h k hk, BitVec.getLsbD_zero]

/-- The interrupt line is high exactly when the master enable is set and a request is both pending and enabled (R520). -/
theorem irqLine_iff (d : Devices) : irqLine d = true ↔ d.ime.getLsbD 0 = true ∧ d.ie &&& d.ifr ≠ 0#16 := by
  simp [irqLine]

theorem common_bit_iff (x y : Half) : x &&& y ≠ 0#16 ↔ ∃ k, k < 16 ∧ x.getLsbD k = true ∧ y.getLsbD k = true := by
  rw [ne_eq, eq_zero_iff_getLsbD]
  simp

/-- A step with an interrupt due enters it, with the entry's cost (R503). -/
theorem cpuStep_of_interrupt {s : State} (hi : s.cpsr.i = false) (hline : irqLine s.dev = true) :
    cpuStep s = .next { raiseIrq (beginStep s) with cycles := s.cfg.irqEntryCycles } := by
  have hirq : irqTaken (beginStep s) = true := by simp [irqTaken, hi, hline]
  simp only [cpuStep, hirq, if_true]

theorem entered_interrupt (s : State) :
    Entered .irq s.cfg.vector.irq (s.pc + 4#32) s { raiseIrq (beginStep s) with cycles := s.cfg.irqEntryCycles } :=
  entered_enterException (by decide) _ _ (beginStep s)

/-- Settles O7: the entry where it is due, the fetch where it is not, and the line by its bits. -/
theorem interruptEntry : Obligations.InterruptEntry := by
  unfold Obligations.InterruptEntry
  refine ⟨fun s hcalls hi hime hreq => ?_, fun s h => ?_, fun d => ?_⟩
  · have hcpu := cpuStep_of_interrupt hi ((irqLine_iff s.dev).mpr ⟨hime, hreq⟩)
    refine ⟨_, hcpu, entered_interrupt s, rfl, ?_, ?_, ?_⟩
    · exact enterException_busLast .irq s.cfg.vector.irq (s.pc + 4#32) (beginStep s)
    · exact enterException_draws .irq s.cfg.vector.irq (s.pc + 4#32) (beginStep s)
    · rw [step_of_no_call hcalls, turn, hcpu]; rfl
  · refine cpuStep_of_noInterrupt (h.imp_right fun h => ?_)
    rw [Bool.eq_false_iff, ne_eq, irqLine_iff]
    rintro ⟨hime, hreq⟩
    obtain h | h := h
    · rw [h] at hime; cases hime
    · exact hreq h
  · rw [irqLine_iff, common_bit_iff]

/-! ## The return -/

/-- The mask of a jump keeps an address that is aligned for the instruction set. -/
theorem pcMask_of_aligned {thumb : Bool} {v : Word} (h : v.toNat % (fetchWidth thumb).bytes = 0) : pcMask thumb v = v := by
  have hmask : pcMask thumb v = alignDown v (fetchWidth thumb) := by cases thumb <;> rfl
  rw [hmask, alignDown_of_aligned h]

theorem pcMask_pc {s : State} (h : s.pcAligned) : pcMask s.cpsr.t s.pc = s.pc := by
  refine pcMask_of_aligned ?_
  cases ht : s.cpsr.t <;> simpa [State.pcAligned, ht, fetchWidth, Width.bytes] using h

/-- The next instruction's address is aligned as the instruction's own is. -/
theorem pcMask_next {s : State} (h : s.pcAligned) :
    pcMask s.cpsr.t (s.pc + BitVec.ofNat 32 (fetchWidth s.cpsr.t).bytes) = s.pc + BitVec.ofNat 32 (fetchWidth s.cpsr.t).bytes := by
  refine pcMask_of_aligned ?_
  cases ht : s.cpsr.t <;> simp [State.pcAligned, ht, fetchWidth, Width.bytes, BitVec.toNat_add] at h ⊢ <;> omega

/-- After an entry, a data-processing instruction with S into register 15 restores the status word, and of the registers and saved
status words only those of the entry's mode differ from before it (R510). -/
theorem return_of_entered {m : Mode} {vec ret next : Word} {s t : State} (h : Entered m vec ret s t) (k : DpOp) (rn : Reg) (o : Operand2)
    (hresult : (k.run rn o t).result = next) (hnext : pcMask s.cpsr.t next = next) :
    ∃ u, exec (k.instr .al true rn 15#4 o) t = .next u ∧ u.cpsr = s.cpsr ∧ u.pc = next ∧ keepsRegs [physIndex m 14#4] s u ∧
      u.mem = s.mem ∧ u.dev = s.dev ∧ ∀ m', m' ≠ m → spsrOf m' u.spsr = spsrOf m' s.spsr := by
  obtain ⟨hcpsr, _, hsaved, hothers, _, hregs, hmem, hdev, _, _⟩ := h
  have hspsr : spsrOf t.cpsr.mode t.spsr = some (psrOfCpsr s.cpsr) := by rw [hcpsr]; exact hsaved
  refine ⟨_, dataProcessingReturn k .al rn o t (psrOfCpsr s.cpsr) s.cpsr.mode rfl hspsr (modeBits_mem _), rfl, ?_, hregs, hmem, hdev, hothers⟩
  exact (congrArg (pcMask s.cpsr.t) hresult).trans (hresult ▸ hnext)

theorem armReg_link_of_entered {m : Mode} {vec ret : Word} {s t : State} (h : Entered m vec ret s t) : armReg 14#4 t = ret := by
  obtain ⟨hcpsr, _, _, _, hlink, _⟩ := h
  rw [armReg, if_neg (by decide), State.x, hcpsr, ← hlink]

/-- MOVS pc, lr resumes at the link address (R511). -/
theorem movs_return {m : Mode} {vec ret : Word} {s t : State} (h : Entered m vec ret s t) (hret : pcMask s.cpsr.t ret = ret) :
    ∃ u, exec (.movShImm .al true 15#4 0#5 .lsl 14#4) t = .next u ∧ u.cpsr = s.cpsr ∧ u.pc = ret ∧ keepsRegs [physIndex m 14#4] s u ∧
      u.mem = s.mem ∧ u.dev = s.dev ∧ ∀ m', m' ≠ m → spsrOf m' u.spsr = spsrOf m' s.spsr :=
  return_of_entered h .mov 0#4 (.shImm 0#5 .lsl 14#4) (armReg_link_of_entered h) hret

/-- Settles O11: each trap is an entry with the next instruction's address in the link register. -/
theorem trapReturn : Obligations.TrapReturn := by
  unfold Obligations.TrapReturn
  intro returns s halign
  have hreturns : ∀ (i : Instr) (m : Mode) (vec ret : Word), pcMask s.cpsr.t ret = ret →
      (∃ t, exec i s = .next t ∧ Entered m vec ret s t) → returns i m s ret := by
    rintro i m vec ret hret ⟨t, hexec, hentered⟩
    obtain ⟨u, hu⟩ := movs_return hentered hret
    obtain ⟨hcpsr, _⟩ := hentered
    exact ⟨t, u, hexec, by rw [hcpsr], hu⟩
  have hnext := pcMask_next halign
  refine ⟨fun ht c hc => ⟨fun hp n => ?_, fun hp k => ?_⟩, fun ht => ⟨fun hp n => ?_, fun hp k => ?_⟩⟩
  all_goals rw [ht] at hnext
  · exact hreturns _ _ _ _ (ht ▸ hnext) (by rw [exec_swi_pass n hc]; exact raiseSwi_trap _ _ hp)
  · exact hreturns _ _ _ _ (ht ▸ hnext) (by rw [exec_armUndef_pass k hc]; exact raiseUndefined_trap _ _ hp)
  · exact hreturns _ _ _ _ (ht ▸ hnext) (by rw [exec_tSwi]; exact raiseSwi_trap _ _ hp)
  · exact hreturns _ _ _ _ (ht ▸ hnext) (by rw [exec_thumbUndef]; exact raiseUndefined_trap _ _ hp)

/-- Settles O12: the link register is 4 past the displaced instruction, whichever instruction set it is of. -/
theorem interruptReturn : Obligations.InterruptReturn := by
  unfold Obligations.InterruptReturn
  intro s hi hline halign
  have hentered := entered_interrupt s
  have hresult : (DpOp.sub.run 14#4 (.imm 0#4 4#8) { raiseIrq (beginStep s) with cycles := s.cfg.irqEntryCycles }).result = s.pc := by
    simp only [DpOp.run, DpOp.outcome, firstOperand, armReg_link_of_entered hentered, secondOperand, differenceOf]
    simp [carryWord]
  obtain ⟨u, hu, hcpsr, hpc, hrest⟩ := return_of_entered hentered .sub 14#4 (.imm 0#4 4#8) hresult (pcMask_pc halign)
  exact ⟨_, u, cpuStep_of_interrupt hi hline, hu, hpc, hcpsr, hrest⟩

end Sys2Proof.Machine
end

section
/-! SUPPORT. O20 (spec/60_exceptions.md R508, spec/49_unlisted_families.md R400): the bodies that answer a next state in every state, and the
refusal of the unlisted families. -/

namespace Sys2Proof.Machine

open Sys2Proof.Claims

/-- A result that goes on. -/
def Answers (r : Result) : Prop := ∃ t, r = .next t

/-! ## The bodies -/

theorem answers_next (t : State) : Answers (.next t) := ⟨t, rfl⟩

theorem Answers.armExec {c : Cond} {body : Word → State → Result} {s : State} (h : Answers (body s.pc { s with pc := s.pc + 4#32 })) :
    Answers (armExec c body s) := by
  cases hc : condHolds c s.cpsr with
  | true => rw [armExec_pass c body s hc]; exact h
  | false => exact ⟨_, armExec_fail c body s hc⟩

theorem Answers.thumbExec {body : Word → State → Result} {s : State} (h : Answers (body s.pc { s with pc := s.pc + 2#32 })) :
    Answers (thumbExec body s) := h

theorem Answers.unlisted {body : Word → State → Result} {a : Word} {s : State} (hu : s.cfg.unlisted = .armv4t) (h : Answers (body a s)) :
    Answers (unlistedBody body a s) := by
  rw [unlistedBody_armv4t body a s hu]; exact h

/-- A data-processing instruction answers unless it replaces the whole status word. -/
theorem answers_dpWrite {f : AluOp} {c : Cond} {sf : Bool} {rn rd : Reg} {o : Operand2} {s : State} {e : StatusEffect}
    (h : (if !sf then .nothing else if rd = 15#4 then .everything else e) ≠ StatusEffect.everything) :
    Answers (dpWrite f c sf rn rd o s) := by
  refine .armExec ?_
  unfold dpFinish
  cases sf with
  | false => exact answers_next _
  | true =>
    have hrd : rd ≠ 15#4 := fun hrd => by simp [hrd] at h
    rw [if_pos rfl, if_neg hrd]; exact answers_next _

theorem answers_dpCompare (f : AluOp) (c : Cond) (rn : Reg) (o : Operand2) (s : State) : Answers (dpCompare f c rn o s) :=
  .armExec (answers_next _)

theorem answers_raiseSwi (ret : Word) (s : State) : Answers (raiseSwi ret s) := ⟨_, raiseSwi_eq ret s⟩

theorem answers_raiseUndefined (ret : Word) (s : State) : Answers (raiseUndefined ret s) := ⟨_, raiseUndefined_eq ret s⟩

/-- A block load answers unless it copies the SPSR. -/
theorem answers_blockLoad {p u sbit w : Bool} {rn : Reg} {list : BitVec 16} {a : Word} {s : State}
    (h : (if sbit && list.getLsbD 15 then .everything else .nothing) ≠ StatusEffect.everything) :
    Answers (blockLoad p u sbit w rn list a s) := by
  unfold blockLoad
  cases hlist : list.getLsbD 15 with
  | false => exact answers_next _
  | true =>
    cases sbit with
    | false => exact answers_next _
    | true => rw [hlist] at h; exact absurd rfl h

/-! ## Every instruction -/

/-- The status word read by MRS where it is the current one. -/
theorem answers_execMrs (c : Cond) {p : Bool} (rd : Reg) (s : State) (h : p = false) : Answers (execMrs c p rd s) := by
  subst h; exact .armExec (answers_next _)

/-- Every instruction that the configuration admits answers, but for reads and writes of an SPSR and replacements of the status word. -/
theorem answers_exec {i : Instr} {s : State} (hadmit : admits s.cfg i) (hstatus : Instr.status s.cfg i ≠ .everything)
    (hmrs : ∀ c rd, i ≠ .mrs c true rd) (hmsr : ∀ (o : MsrOperand) c fields, i ≠ o.instr c true fields) : Answers (exec i s) := by
  unfold exec
  cases i with
  | andImm | andShImm | andShReg | eorImm | eorShImm | eorShReg | subImm | subShImm | subShReg | rsbImm | rsbShImm | rsbShReg
  | addImm | addShImm | addShReg | adcImm | adcShImm | adcShReg | sbcImm | sbcShImm | sbcShReg | rscImm | rscShImm | rscShReg
  | orrImm | orrShImm | orrShReg | movImm | movShImm | movShReg | bicImm | bicShImm | bicShReg | mvnImm | mvnShImm | mvnShReg =>
    exact answers_dpWrite hstatus
  | tstImm | tstShImm | tstShReg | teqImm | teqShImm | teqShReg | cmpImm | cmpShImm | cmpShReg | cmnImm | cmnShImm | cmnShReg =>
    exact answers_dpCompare ..
  | mrs c p rd => exact answers_execMrs c rd s (by cases p; exacts [rfl, absurd rfl (hmrs c rd)])
  | msrReg c p fields rm =>
    cases p with
    | false => exact absurd rfl hstatus
    | true => exact absurd rfl (hmsr (.reg rm) c fields)
  | msrImm c p fields rot imm8 =>
    cases p with
    | false => exact absurd rfl hstatus
    | true => exact absurd rfl (hmsr (.imm rot imm8) c fields)
  | bx | b | bl | ldrImm | ldrReg | ldrbImm | ldrbReg | strImm | strReg | strbImm | strbReg | stm => exact .armExec (answers_next _)
  | ldm => exact .armExec (answers_blockLoad hstatus)
  | ldrhReg | ldrhImm | ldrsbReg | ldrsbImm | ldrshReg | ldrshImm | strhImm | strhReg | swp | swpb | mul | mla | umull | umlal | smull
  | smlal => exact .armExec (.unlisted (hadmit rfl) (answers_next _))
  | swi => exact .armExec (answers_raiseSwi ..)
  | undefArch | undefCopTransfer | undefCopOp | undefDoubleword => exact .armExec (answers_raiseUndefined ..)
  | tMul | tStrhReg | tLdsbReg | tLdrhReg | tLdshReg | tStrhImm | tLdrhImm => exact .thumbExec (.unlisted (hadmit rfl) (answers_next _))
  | tSwi => exact .thumbExec (answers_raiseSwi ..)
  | tUndefBxH1 | tUndefB1 | tUndefB2 | tUndefB6 | tUndefB8 | tUndefBe | tUndefCond14 | tUndefBlxSuffix =>
    exact .thumbExec (answers_raiseUndefined ..)
  | tBeq | tBne | tBcs | tBcc | tBmi | tBpl | tBvs | tBvc | tBhi | tBls | tBge | tBlt | tBgt | tBle =>
    exact ⟨_, thumbBranchIf_eq _ _ _⟩
  | _ => exact .thumbExec (answers_next _)

/-! ## The unlisted families -/

theorem armExec_unlisted_refuse {c : Cond} (body : Word → State → Result) {s : State} (hc : condHolds c s.cpsr = true)
    (hu : s.cfg.unlisted = .refuse) : armExec c (unlistedBody body) s = .refused .unlistedFamily := by
  rw [armExec_pass c _ s hc, unlistedBody_refuse body _ { s with pc := s.pc + 4#32 } hu]

/-- An instruction of an unlisted family, its condition met, is refused under `refuse` (R400). -/
theorem exec_unlisted_refuse {i : Instr} {s : State} (hi : Instr.unlisted i = true) (hu : s.cfg.unlisted = .refuse)
    (hc : ∀ c, armCond i = some c → condHolds c s.cpsr = true) : exec i s = .refused .unlistedFamily := by
  unfold exec
  cases i with
  | ldrhReg | ldrhImm | ldrsbReg | ldrsbImm | ldrshReg | ldrshImm | strhImm | strhReg | swp | swpb | mul | mla | umull | umlal | smull
  | smlal => exact armExec_unlisted_refuse _ (hc _ rfl) hu
  | tMul | tStrhReg | tLdsbReg | tLdrhReg | tLdshReg | tStrhImm | tLdrhImm => exact unlistedBody_refuse _ _ { s with pc := s.pc + 2#32 } hu
  | _ => cases hi

/-- Settles O20: case by case over the instructions, by the bodies they share. -/
theorem execStopsNowhereElse : Obligations.ExecStopsNowhereElse := by
  unfold Obligations.ExecStopsNowhereElse
  refine ⟨fun i s hadmit hstatus hmrs hmsr => answers_exec hadmit hstatus hmrs hmsr, fun i s hnot hc => ?_⟩
  obtain ⟨hi, hne⟩ := Classical.not_imp.mp hnot
  have hu : s.cfg.unlisted = .refuse := by cases h : s.cfg.unlisted; exacts [rfl, absurd h hne]
  exact exec_unlisted_refuse hi hu hc

end Sys2Proof.Machine
end

section
/-! SUPPORT. O51, O52 (spec/60_exceptions.md R545 to R547): one tick of a timer by its cases, one cycle of a timer that counts alone, and the
closed form of a count of cycles. -/

namespace Sys2Proof.Machine

open Sys2Proof.Claims

/-! ## One tick -/

/-- The cascade goes to higher-numbered timers, so any fuel that reaches the last one is enough (R547). -/
theorem timerTickFuel_enough (a b : Nat) (n : Fin 4) (s : State) (ha : 4 ≤ n.val + a) (hb : 4 ≤ n.val + b) :
    timerTickFuel a n s = timerTickFuel b n s := by
  induction a generalizing b n s with
  | zero => omega
  | succ a ih =>
    cases b with
    | zero => omega
    | succ b =>
      have hnext : ∀ (h : n.val < 3) (u : State), timerTickFuel a ⟨n.val + 1, by omega⟩ u = timerTickFuel b ⟨n.val + 1, by omega⟩ u :=
        fun h u => ih b _ u (by simp only; omega) (by simp only; omega)
      rw [timerTickFuel, timerTickFuel]
      by_cases h : n.val < 3
      · simp only [dif_pos h, hnext h]
      · simp only [dif_neg h]

theorem add_one_eq_zero_iff (x : Half) : x + 1#16 = 0#16 ↔ x = 0xFFFF#16 := by bv_omega

theorem timerTick_of_disabled {n : Fin 4} {s : State} (h : s.dev.timers[n.val].enabled = false) : timerTick n s = s := by
  simp only [timerTick, timerTickFuel, h, Bool.not_false, if_true]

/-- A tick below 0xFFFF counts up (R545). -/
theorem timerTick_of_counting {n : Fin 4} {s : State} (h : s.dev.timers[n.val].enabled = true)
    (hc : s.dev.timers[n.val].counter ≠ 0xFFFF#16) :
    timerTick n s = { s with dev := setTimer n { s.dev.timers[n.val] with counter := s.dev.timers[n.val].counter + 1#16 } s.dev } := by
  simp only [timerTick, timerTickFuel, h, Bool.not_true, Bool.false_eq_true, if_false, add_one_eq_zero_iff, if_neg hc]

/-- What a wrap leaves before any cascade: the reload, the overflow pulse, the request where it is enabled (R545). -/
def timerWrapped (n : Fin 4) (s : State) : State :=
  let x := s.dev.timers[n.val]
  let d := setTimer n { x with counter := x.reload } s.dev
  { s with
    dev := if x.irqEnabled then setRequest (s.cfg.irqBit.timer[n.val]) d else d
    outputs := s.outputs ++ [.overflow n] }

/-- A wrap leaves the other timers. -/
theorem timerWrapped_timers_ne {n m : Fin 4} (h : n ≠ m) (s : State) : (timerWrapped n s).dev.timers[m.val] = s.dev.timers[m.val] := by
  simp only [timerWrapped, setRequestIf_timers]
  exact setTimer_timers_ne n m _ _ h

/-- A tick at 0xFFFF wraps, and ticks the next timer in cascade mode (R545, R547). -/
theorem timerTick_of_wrap {n : Fin 4} {s : State} (h : s.dev.timers[n.val].enabled = true)
    (hc : s.dev.timers[n.val].counter = 0xFFFF#16) :
    timerTick n s = if hn : n.val < 3 then
      if s.dev.timers[n.val + 1].cascade then timerTick ⟨n.val + 1, by omega⟩ (timerWrapped n s) else timerWrapped n s
    else timerWrapped n s := by
  have hunfold : timerTick n s = if hn : n.val < 3 then
      if (timerWrapped n s).dev.timers[n.val + 1].cascade then timerTickFuel 3 ⟨n.val + 1, by omega⟩ (timerWrapped n s)
      else timerWrapped n s
    else timerWrapped n s := by
    change timerTickFuel (3 + 1) n s = _
    rw [timerTickFuel]
    simp only [h, Bool.not_true, Bool.false_eq_true, if_false, add_one_eq_zero_iff, if_pos hc]
    rfl
  rw [hunfold]
  split
  · next hn =>
    have hne : n ≠ ⟨n.val + 1, by omega⟩ := fun e => by have := congrArg Fin.val e; simp at this
    have htimer := timerWrapped_timers_ne hne s
    rw [timerTickFuel_enough 3 4 ⟨n.val + 1, by omega⟩ _ (by simp only; omega) (by simp only; omega)]
    simp only at htimer
    rw [htimer]; rfl
  · rfl

/-- Settles O52: the three cases of a tick. -/
theorem timerTickRule : Obligations.TimerTickRule := by
  unfold Obligations.TimerTickRule
  intro n s x
  refine ⟨fun h => timerTick_of_disabled h, fun h hc => timerTick_of_counting h hc, fun h hc => ⟨fun hn hcascade => ?_, fun hlast => ?_⟩⟩
  · rw [timerTick_of_wrap h hc, dif_pos hn, Timer.cascade, if_pos hcascade]; rfl
  · rw [timerTick_of_wrap h hc]
    obtain rfl | ⟨hn, hcascade⟩ := hlast
    · rw [dif_neg (by decide)]; rfl
    · rw [dif_pos hn, if_neg (by rw [Timer.cascade, hcascade]; decide)]; rfl

/-! ## One cycle of a timer that counts alone -/

/-- A timer after one cycle in which it does not wrap (R546). -/
def Timer.cycled (cfg : Cfg) (t : Timer) : Timer :=
  if t.div - 1#11 = 0#11 then { t with counter := t.counter + 1#16, div := t.period cfg } else { t with div := t.div - 1#11 }

theorem setTimer_setTimer (n : Fin 4) (t u : Timer) (d : Devices) : setTimer n t (setTimer n u d) = setTimer n t d := by
  simp only [setTimer, Vector.set_set]

theorem setTimer_same (n : Fin 4) (d : Devices) : setTimer n d.timers[n.val] d = d := by
  simp only [setTimer, Vector.set_getElem_self]

theorem timerCycle_of_disabled {n : Fin 4} {s : State} (h : s.dev.timers[n.val].enabled = false) : timerCycle n s = s := by
  simp only [timerCycle, h, Bool.false_and, Bool.false_eq_true, if_false]

theorem timerCycle_of_counting {n : Fin 4} {s : State} (h : s.dev.timers[n.val].enabled = true)
    (hcascade : s.dev.timers[n.val].cascade = false)
    (hc : s.dev.timers[n.val].div - 1#11 = 0#11 → s.dev.timers[n.val].counter ≠ 0xFFFF#16) :
    timerCycle n s = { s with dev := setTimer n (s.dev.timers[n.val].cycled s.cfg) s.dev } := by
  simp only [timerCycle, h, hcascade, Bool.not_false, Bool.and_true, if_true, Timer.cycled]
  split
  · next hdiv =>
    rw [timerTick_of_counting]
    · simp only [setTimer_timers_self, setTimer_setTimer]
    · rw [setTimer_timers_self]; exact h
    · rw [setTimer_timers_self]; exact hc hdiv
  · rfl

/-- Every other timer is disabled. -/
def CountsAlone (n : Fin 4) (d : Devices) : Prop := ∀ m : Fin 4, m ≠ n → d.timers[m.val].enabled = false

theorem countsAlone_setTimer {n : Fin 4} {d : Devices} (h : CountsAlone n d) (t : Timer) : CountsAlone n (setTimer n t d) := by
  intro m hm
  rw [setTimer_timers_ne n m t d hm.symm]; exact h m hm

/-- A cycle of the four timers is a cycle of the one that counts. -/
theorem timersCycle_of_alone {n : Fin 4} {s t : State} (hs : CountsAlone n s.dev) (ht : CountsAlone n t.dev) (h : timerCycle n s = t) :
    timersCycle s = t := by
  have hbefore : ∀ m, m ≠ n → timerCycle m s = s := fun m hm => timerCycle_of_disabled (hs m hm)
  have hafter : ∀ m, m ≠ n → timerCycle m t = t := fun m hm => timerCycle_of_disabled (ht m hm)
  rw [timersCycle]
  obtain rfl | rfl | rfl | rfl : n = 0 ∨ n = 1 ∨ n = 2 ∨ n = 3 := by omega
  · rw [h, hafter 1 (by decide), hafter 2 (by decide), hafter 3 (by decide)]
  · rw [hbefore 0 (by decide), h, hafter 2 (by decide), hafter 3 (by decide)]
  · rw [hbefore 0 (by decide), hbefore 1 (by decide), h, hafter 3 (by decide)]
  · rw [hbefore 0 (by decide), hbefore 1 (by decide), hbefore 2 (by decide), h]

/-! ## The closed form -/

theorem Timer.cycled_ctrl (cfg : Cfg) (t : Timer) : (t.cycled cfg).ctrl = t.ctrl := by unfold Timer.cycled; split <;> rfl

theorem Timer.cycled_period (cfg : Cfg) (t : Timer) : (t.cycled cfg).period cfg = t.period cfg := by
  rw [Timer.period, Timer.cycled_ctrl]; rfl

theorem Timer.cycled_div (cfg : Cfg) {t : Timer} (ht : t.DivOk cfg) :
    (t.cycled cfg).div.toNat = if t.div.toNat = 1 then (t.period cfg).toNat else t.div.toNat - 1 := by
  obtain ⟨hlow, _⟩ := ht
  unfold Timer.cycled
  by_cases h : t.div.toNat = 1
  · rw [if_pos (by bv_omega), if_pos h]
  · rw [if_neg (by bv_omega), if_neg h]; bv_omega

theorem Timer.cycled_counter {cfg : Cfg} {t : Timer} (ht : t.DivOk cfg) :
    (t.cycled cfg).counter = t.counter + BitVec.ofNat 16 (if t.div.toNat = 1 then 1 else 0) := by
  unfold Timer.cycled
  obtain ⟨hlow, _⟩ := ht
  by_cases h : t.div.toNat = 1
  · rw [if_pos (by bv_omega), if_pos h]
  · rw [if_neg (by bv_omega), if_neg h]; simp

theorem Timer.divOk_cycled {cfg : Cfg} {t : Timer} (ht : t.DivOk cfg) : (t.cycled cfg).DivOk cfg := by
  have hdiv := Timer.cycled_div cfg ht
  obtain ⟨hlow, hhigh⟩ := ht
  rw [Timer.DivOk, Timer.cycled_period, hdiv]
  split <;> omega

theorem timerTicks_succ {cfg : Cfg} {t : Timer} (ht : t.DivOk cfg) (c : Nat) :
    timerTicks cfg t (c + 1) = (if t.div.toNat = 1 then 1 else 0) + timerTicks cfg (t.cycled cfg) c := by
  have hdiv := Timer.cycled_div cfg ht
  obtain ⟨hlow, hhigh⟩ := ht
  rw [timerTicks, timerTicks, Timer.cycled_period, hdiv]
  by_cases hone : t.div.toNat = 1
  · simp only [hone, if_true]
    rw [if_neg (by omega), Nat.add_sub_cancel]
    by_cases hc : c < (t.period cfg).toNat
    · rw [if_pos hc, Nat.div_eq_of_lt hc]
    · rw [if_neg hc, Nat.div_eq_sub_div (by omega) (by omega)]; omega
  · simp only [if_neg hone]
    by_cases hc : c + 1 < t.div.toNat
    · rw [if_pos hc, if_pos (by omega)]
    · rw [if_neg hc, if_neg (by omega), show c + 1 - t.div.toNat = c - (t.div.toNat - 1) by omega]; omega

theorem timerDivAfter_succ {cfg : Cfg} {t : Timer} (ht : t.DivOk cfg) (c : Nat) :
    timerDivAfter cfg t (c + 1) = timerDivAfter cfg (t.cycled cfg) c := by
  have hdiv := Timer.cycled_div cfg ht
  obtain ⟨hlow, hhigh⟩ := ht
  rw [timerDivAfter, timerDivAfter, Timer.cycled_period, hdiv]
  by_cases hone : t.div.toNat = 1
  · simp only [hone, if_true]
    rw [if_neg (by omega), Nat.add_sub_cancel]
    by_cases hc : c < (t.period cfg).toNat
    · rw [if_pos hc, Nat.mod_eq_of_lt hc]
    · rw [if_neg hc, Nat.mod_eq_sub_mod (by omega)]
  · simp only [if_neg hone]
    by_cases hc : c + 1 < t.div.toNat
    · rw [if_pos hc, if_pos (by omega)]; omega
    · rw [if_neg hc, if_neg (by omega), show c + 1 - t.div.toNat = c - (t.div.toNat - 1) by omega]

/-- A timer after a count of cycles in which it does not wrap (R546). -/
def Timer.advanced (cfg : Cfg) (t : Timer) (c : Nat) : Timer :=
  { t with counter := t.counter + BitVec.ofNat 16 (timerTicks cfg t c), div := BitVec.ofNat 11 (timerDivAfter cfg t c) }

theorem Timer.advanced_zero {cfg : Cfg} {t : Timer} (ht : t.DivOk cfg) : t.advanced cfg 0 = t := by
  obtain ⟨hlow, _⟩ := ht
  have hpos : 0 < t.div.toNat := hlow
  simp [Timer.advanced, timerTicks, timerDivAfter, hpos]

theorem Timer.advanced_succ {cfg : Cfg} {t : Timer} (ht : t.DivOk cfg) (c : Nat) :
    t.advanced cfg (c + 1) = (t.cycled cfg).advanced cfg c := by
  have hreload : (t.cycled cfg).reload = t.reload := by unfold Timer.cycled; split <;> rfl
  rw [Timer.advanced, Timer.advanced, timerTicks_succ ht, timerDivAfter_succ ht, Timer.cycled_counter ht, hreload,
    Timer.cycled_ctrl, BitVec.ofNat_add, BitVec.add_assoc]

/-- A timer that counts alone and does not wrap follows the closed form. -/
theorem timersAdvance_alone {n : Fin 4} (c : Nat) {s : State} (hok : s.dev.timers[n.val].DivOk s.cfg)
    (henabled : s.dev.timers[n.val].enabled = true) (hcascade : s.dev.timers[n.val].cascade = false) (halone : CountsAlone n s.dev)
    (hwrap : s.dev.timers[n.val].counter.toNat + timerTicks s.cfg s.dev.timers[n.val] c < 2 ^ 16) :
    timersAdvance c s = { s with dev := setTimer n (s.dev.timers[n.val].advanced s.cfg c) s.dev } := by
  induction c generalizing s with
  | zero => rw [timersAdvance, Timer.advanced_zero hok, setTimer_same]
  | succ c ih =>
    rw [timerTicks_succ hok] at hwrap
    have hcounts : s.dev.timers[n.val].div - 1#11 = 0#11 → s.dev.timers[n.val].counter ≠ 0xFFFF#16 := fun hdiv hmax => by
      have hone : s.dev.timers[n.val].div.toNat = 1 := by bv_omega
      rw [if_pos hone, hmax] at hwrap
      have hlast : (0xFFFF#16 : Half).toNat = 65535 := rfl
      omega
    have hcycle : timersCycle s = { s with dev := setTimer n (s.dev.timers[n.val].cycled s.cfg) s.dev } :=
      timersCycle_of_alone halone (countsAlone_setTimer halone _) (timerCycle_of_counting henabled hcascade hcounts)
    have htimer := setTimer_timers_self n (s.dev.timers[n.val].cycled s.cfg) s.dev
    rw [timersAdvance, hcycle, ih]
    · simp only [htimer, setTimer_setTimer, Timer.advanced_succ hok]
    · simp only [htimer]; exact Timer.divOk_cycled hok
    · simp only [htimer]; rw [Timer.enabled, Timer.cycled_ctrl]; exact henabled
    · simp only [htimer]; rw [Timer.cascade, Timer.cycled_ctrl]; exact hcascade
    · exact countsAlone_setTimer halone _
    · simp only [htimer]
      rw [Timer.cycled_counter hok, BitVec.toNat_add, BitVec.toNat_ofNat]
      exact Nat.lt_of_le_of_lt (Nat.add_le_add_right ((Nat.mod_le _ _).trans (Nat.add_le_add_left (Nat.mod_le _ _) _)) _)
        (by rwa [Nat.add_assoc])

/-- A count of cycles may be split at will. -/
theorem timersAdvance_add (a b : Nat) (s : State) : timersAdvance (a + b) s = timersAdvance b (timersAdvance a s) := by
  induction a generalizing s with
  | zero => rw [Nat.zero_add, timersAdvance]
  | succ a ih => rw [Nat.add_right_comm, timersAdvance, timersAdvance, ih]

/-- Settles O51: the closed form of a timer that counts alone, and the split of a count. -/
theorem timerClosedForm : Obligations.TimerClosedForm := by
  unfold Obligations.TimerClosedForm
  exact ⟨fun n c s hok henabled hcascade halone hwrap => timersAdvance_alone c (hok n) henabled hcascade halone hwrap, timersAdvance_add⟩

end Sys2Proof.Machine
end

section
/-! SUPPORT. O55, O57, O58 (spec/60_exceptions.md R562 to R564, R590 to R596, spec/70_reset_and_hazards.md R600, R603): the halves of a DMA
register, what a trigger does to each channel, the bytes of a loaded image, and the reset state. -/

namespace Sys2Proof.Machine

open Sys2Proof.Claims

/-! ## The halves of a word -/

theorem merge_eq_blend (mask v old : Half) : merge mask v old = blend mask v old := by
  ext i hi
  simp only [merge, blend, BitVec.getElem_or, BitVec.getElem_and, BitVec.getElem_xor, BitVec.getElem_not]
  cases mask[i] <;> cases v[i] <;> cases old[i] <;> rfl

theorem extractLsb'_low_eq_halfOf (w : Word) : w.extractLsb' 0 16 = halfOf false w := by
  apply BitVec.eq_of_toNat_eq
  simp [halfOf]

theorem extractLsb'_high_eq_halfOf (w : Word) : w.extractLsb' 16 16 = halfOf true w := by
  apply BitVec.eq_of_toNat_eq
  simp [halfOf, Nat.shiftRight_eq_div_pow]

theorem getElem_append_half (hi lo : Half) {i : Nat} (h : i < 32) : (hi ++ lo : Word)[i] = if h' : i < 16 then lo[i] else hi[i - 16] :=
  BitVec.getElem_append h

theorem withLow_eq (w : Word) (h : Half) : withLow w h = halfReplaced false w h := by
  ext i hi
  simp only [withLow, halfReplaced, Bool.false_eq_true, if_false]
  interval_cases i <;> simp [getElem_append_half]

theorem withHigh_eq (w : Word) (h : Half) : withHigh w h = halfReplaced true w h := by
  ext i hi
  simp only [withHigh, halfReplaced, if_true]
  interval_cases i <;> simp [getElem_append_half]

/-! ## Writes of a channel's registers -/

theorem onlyChannel_refl (ch : Fin 4) (d : Devices) : onlyChannel ch d d := ⟨rfl, fun _ _ => rfl⟩

theorem onlyChannel_setDma (ch : Fin 4) (c : DmaChannel) (d : Devices) : onlyChannel ch d (setDma ch c d) :=
  ⟨rfl, fun c' hne => setDma_dma_ne ch c' c d hne.symm⟩

theorem dmaWriteReg_of_active {ch : Fin 4} {d : Devices} (h : d.dma[ch.val].active = true) (r : DmaReg) (v mask : Half) :
    dmaWriteReg ch r v mask d = d := if_pos h

/-- A write of an address or count register, by the half it names (R562). -/
theorem dmaWriteReg_of_inactive {ch : Fin 4} {d : Devices} (h : d.dma[ch.val].active = false) (v mask : Half) :
    let x := d.dma[ch.val]
    (∀ high : Bool, dmaWriteReg ch (if high then .srcHi else .srcLo) v mask d =
        setDma ch { x with src := halfReplaced high x.src (blend mask v (halfOf high x.src)) } d ∧
      dmaWriteReg ch (if high then .dstHi else .dstLo) v mask d =
        setDma ch { x with dst := halfReplaced high x.dst (blend mask v (halfOf high x.dst)) } d) ∧
    dmaWriteReg ch .count v mask d = setDma ch { x with count := blend mask v x.count } d := by
  intro x
  have hinactive : ¬ d.dma[ch.val].active = true := by simp [h]
  refine ⟨fun high => ?_, ?_⟩
  · cases high with
    | true => simp only [dmaWriteReg, if_neg hinactive, if_true, merge_eq_blend, extractLsb'_high_eq_halfOf, withHigh_eq, x, and_self]
    | false =>
      simp only [dmaWriteReg, if_neg hinactive, Bool.false_eq_true, if_false, merge_eq_blend, extractLsb'_low_eq_halfOf, withLow_eq, x,
        and_self]
  · simp only [dmaWriteReg, if_neg hinactive, merge_eq_blend, x]

theorem onlyChannel_dmaWriteReg (ch : Fin 4) (r : DmaReg) (v mask : Half) (d : Devices) : onlyChannel ch d (dmaWriteReg ch r v mask d) := by
  simp only [dmaWriteReg]
  split
  · exact onlyChannel_refl ch d
  · cases r <;> exact onlyChannel_setDma ..

/-- A control write activates on a rising enable with the immediate trigger and cancels on a falling one (R563). -/
theorem dmaWriteCtrl_eq (ch : Fin 4) (v : Half) (d : Devices) :
    let x := d.dma[ch.val]
    dmaWriteCtrl ch v d = setDma ch { x with
      ctrl := v
      active := if x.ctrl.getLsbD 15 = false ∧ v.getLsbD 15 = true ∧ v.extractLsb' 12 2 = 0#2 then true
        else if x.ctrl.getLsbD 15 = true ∧ v.getLsbD 15 = false then false else x.active } d := by
  intro x
  have hactive : (if !x.ctrl.getLsbD 15 && v.getLsbD 15 then if v.extractLsb' 12 2 == 0#2 then true else x.active
      else if x.ctrl.getLsbD 15 && !v.getLsbD 15 then false else x.active) =
      if x.ctrl.getLsbD 15 = false ∧ v.getLsbD 15 = true ∧ v.extractLsb' 12 2 = 0#2 then true
        else if x.ctrl.getLsbD 15 = true ∧ v.getLsbD 15 = false then false else x.active := by
    cases x.ctrl.getLsbD 15 <;> cases v.getLsbD 15 <;> simp
  exact congrArg (fun a => setDma ch { x with ctrl := v, active := a } d) hactive

/-! ## Triggers -/

/-- A channel after a trigger: active where it is enabled and waits for it (R564). -/
def DmaChannel.triggered (t : BitVec 2) (c : DmaChannel) : DmaChannel :=
  { c with active := c.active || (c.ctrl.getLsbD 15 && decide (c.ctrl.extractLsb' 12 2 = t)) }

theorem DmaChannel.triggered_eq (t : BitVec 2) (c : DmaChannel) :
    c.triggered t = if c.enabled && c.trigger == t && !c.active then { c with active := true } else c := by
  have henabled : c.enabled = c.ctrl.getLsbD 15 := rfl
  have htrigger : (c.trigger == t) = decide (c.ctrl.extractLsb' 12 2 = t) := rfl
  obtain ⟨src, dst, count, ctrl, active⟩ := c
  rw [henabled, htrigger, DmaChannel.triggered]
  cases ctrl.getLsbD 15 <;> cases decide (ctrl.extractLsb' 12 2 = t) <;> cases active <;> rfl

theorem dmaActivate_self (t : BitVec 2) (ch : Fin 4) (d : Devices) : (dmaActivate t ch d).dma[ch.val] = d.dma[ch.val].triggered t := by
  rw [DmaChannel.triggered_eq]
  simp only [dmaActivate]
  split
  · exact setDma_dma_self ..
  · rfl

theorem onlyChannel_dmaActivate (t : BitVec 2) (ch : Fin 4) (d : Devices) : onlyChannel ch d (dmaActivate t ch d) := by
  simp only [dmaActivate]
  split
  · exact onlyChannel_setDma ..
  · exact onlyChannel_refl ch d

/-- A trigger reaches every channel once (R564). -/
theorem dmaTrigger_dma (t : BitVec 2) (d : Devices) (ch : Fin 4) : (dmaTrigger t d).dma[ch.val] = d.dma[ch.val].triggered t := by
  have hkeep : ∀ (c : Fin 4) (e : Devices), ch ≠ c → (dmaActivate t c e).dma[ch.val] = e.dma[ch.val] := fun c e hne =>
    (onlyChannel_dmaActivate t c e).2 ch hne
  rw [dmaTrigger]
  obtain rfl | rfl | rfl | rfl : ch = 0 ∨ ch = 1 ∨ ch = 2 ∨ ch = 3 := by omega
  · rw [hkeep 3 _ (by decide), hkeep 2 _ (by decide), hkeep 1 _ (by decide), dmaActivate_self]
  · rw [hkeep 3 _ (by decide), hkeep 2 _ (by decide), dmaActivate_self, hkeep 0 _ (by decide)]
  · rw [hkeep 3 _ (by decide), dmaActivate_self, hkeep 1 _ (by decide), hkeep 0 _ (by decide)]
  · rw [dmaActivate_self, hkeep 2 _ (by decide), hkeep 1 _ (by decide), hkeep 0 _ (by decide)]

theorem dmaTrigger_only (t : BitVec 2) (d : Devices) : dmaTrigger t d = { d with dma := (dmaTrigger t d).dma } := by
  have hone : ∀ (c : Fin 4) (e : Devices), e = { d with dma := e.dma } → dmaActivate t c e = { d with dma := (dmaActivate t c e).dma } :=
    fun c e he => by
      obtain ⟨h, _⟩ := onlyChannel_dmaActivate t c e
      rw [h, he]
  exact hone 3 _ (hone 2 _ (hone 1 _ (hone 0 d rfl)))

/-- Settles O55: the writes of a channel are writes of that channel, and a trigger is one activation of each. -/
theorem dmaControl : Obligations.DmaControl := by
  unfold Obligations.DmaControl
  intro ch d x
  refine ⟨fun r v mask h => dmaWriteReg_of_active h r v mask, fun h v mask => ?_, fun r v mask => onlyChannel_dmaWriteReg ..,
    fun v => onlyChannel_setDma .., fun t => dmaTrigger_only t d, fun v => ?_, fun t => dmaTrigger_dma t d ch⟩
  · obtain ⟨haddresses, hcount⟩ := dmaWriteReg_of_inactive h v mask
    refine ⟨fun high => ⟨?_, ?_⟩, ?_⟩
    · rw [(haddresses high).1, setDma_dma_self]
    · rw [(haddresses high).2, setDma_dma_self]
    · rw [hcount, setDma_dma_self]
  · rw [dmaWriteCtrl_eq, setDma_dma_self]

/-! ## The host's calls -/

/-- Bytes placed under successive keys stand there, and the other keys read as before. -/
theorem memGet_placeBytes (bs : List Byte) (k : Nat) (mem : List Host.Cell) (a : Nat) :
    memGet (placeBytes bs k mem) a = if k ≤ a ∧ a < k + bs.length then bs.getD (a - k) 0#8 else memGet mem a := by
  induction bs generalizing k mem with
  | nil => rw [placeBytes, if_neg (by simp)]
  | cons b bs ih =>
    rw [placeBytes, ih, memGet_memSet, List.length_cons]
    by_cases ha : a = k
    · subst ha
      rw [if_neg (by omega), if_pos rfl, if_pos (by omega), Nat.sub_self, List.getD_cons_zero]
    · rw [if_neg ha]
      by_cases hin : k + 1 ≤ a ∧ a < k + 1 + bs.length
      · rw [if_pos hin, if_pos (by omega), show a - k = (a - (k + 1)) + 1 by omega, List.getD_cons_succ]
      · rw [if_neg hin, if_neg (by omega)]

theorem cartLenOk_iff (n : Nat) : cartLenOk n = true ↔ n ≠ 0 ∧ n % 4 = 0 ∧ n ≤ 0x02000000 := by
  simp only [cartLenOk, Bool.and_eq_true, bne_iff_ne, beq_iff_eq, decide_eq_true_eq, and_assoc]; rfl

/-- `load_cartridge` with an admitted length, and with any other (R596). -/
theorem loadCartridge_result (image : List Byte) (s : State) :
    let fits := image.length ≠ 0 ∧ image.length % 4 = 0 ∧ image.length ≤ 0x02000000
    let base := (s.cfg.regionOfKind .cartImage).base
    (fits → ∃ t, loadCartridge image s = .next t ∧ (∀ j, j < image.length → memGet t.mem (base + j) = image.getD j 0#8) ∧
      (∀ k, (k < base ∨ base + image.length ≤ k) → memGet t.mem k =
        if (regionAt s.cfg.regions k).kind = .cartImage then Config.unlistedByte else memGet s.mem k) ∧
      t = { s with mem := t.mem, cfg := s.cfg.setCartLen image.length, pc := s.cfg.entry }) ∧
    (¬ fits → loadCartridge image s = .refused .cartridgeLength) := by
  intro fits base
  refine ⟨fun hfits => ⟨_, if_pos ((cartLenOk_iff _).mpr hfits), fun j hj => ?_, fun k hk => ?_, rfl⟩,
    fun hfits => if_neg fun h => hfits ((cartLenOk_iff _).mp h)⟩
  · simp only [memGet_placeBytes]
    rw [if_pos (by omega), Nat.add_sub_cancel_left]
  · simp only [memGet_placeBytes]
    rw [if_neg (by omega), memGet_filter fun k => !cartKey s.cfg k]
    by_cases hkind : (regionAt s.cfg.regions k).kind = .cartImage <;> simp [cartKey, hkind]

/-- A request made under a condition. -/
theorem setRequestIf_eq (b : Bool) (k : Fin 16) (d : Devices) :
    (if b then setRequest k d else d) = { d with ifr := if b then d.ifr ||| (1#16 <<< k.val) else d.ifr } := by cases b <;> rfl

theorem getLsbD_request (ifr : Half) (k j : Fin 16) : (ifr ||| (1#16 <<< k.val)).getLsbD j.val = (ifr.getLsbD j.val || decide (j = k)) := by
  rw [BitVec.getLsbD_or, BitVec.getLsbD_shiftLeft]
  have hone : (1#16).getLsbD (j.val - k.val) = decide (j.val - k.val = 0) := by simp [BitVec.getLsbD_one]
  rw [hone, decide_eq_true j.isLt, Bool.true_and, ← decide_not, ← Bool.decide_and]
  congr 2
  rw [Fin.ext_iff]
  exact propext ⟨fun h => by omega, fun h => by omega⟩

/-- The two fields of DISPSTAT that `host_set_display` joins. -/
theorem dispstat_fields (old : Half) (flags : BitVec 3) :
    (old.extractLsb' 3 13 ++ flags : Half).extractLsb' 0 3 = flags ∧
      (old.extractLsb' 3 13 ++ flags : Half).extractLsb' 3 13 = old.extractLsb' 3 13 := by
  have hbit : ∀ j, (old.extractLsb' 3 13 ++ flags : Half).getLsbD j =
      if j < 3 then flags.getLsbD j else (old.extractLsb' 3 13).getLsbD (j - 3) :=
    fun j => BitVec.getLsbD_append
  constructor
  · ext i hi
    rw [BitVec.getElem_extractLsb', hbit, Nat.zero_add, if_pos hi, BitVec.getLsbD_eq_getElem]
  · ext i hi
    rw [BitVec.getElem_extractLsb', hbit, if_neg (by omega), Nat.add_sub_cancel_left, BitVec.getLsbD_eq_getElem hi]

/-- Settles O57: each pending call is made, with the effect of its own function. -/
theorem hostSignals : Obligations.HostSignals := by
  unfold Obligations.HostSignals
  intro s rest s0
  refine ⟨?_, ?_, fun ch => ?_, fun k => ⟨_, rfl, fun j => getLsbD_request s.dev.ifr k j, rfl⟩, fun flags line => ?_, fun image => ?_⟩
  · exact congrArg (fun d => Host.Outcome.next { s0 with dev := dmaTrigger 1#2 d }) (setRequestIf_eq ..)
  · exact congrArg (fun d => Host.Outcome.next { s0 with dev := dmaTrigger 2#2 d }) (setRequestIf_eq ..)
  · obtain ⟨honly, hothers⟩ := onlyChannel_dmaActivate 3#2 ch s.dev
    exact ⟨_, rfl, dmaActivate_self 3#2 ch s.dev, hothers, congrArg (fun d => { s0 with dev := d }) honly⟩
  · obtain ⟨hlow, hhigh⟩ := dispstat_fields s.dev.dispstat flags
    exact ⟨_, rfl, rfl, hlow, hhigh, rfl⟩
  · exact loadCartridge_result image s0

/-! ## Reset -/

/-- What reset fixes of a state of a configuration. -/
theorem resetWith_devices (c : Cfg) :
    (∀ n : Fin 4, (Devices.atReset c).timers[n.val] = { counter := 0#16, reload := 0#16, ctrl := 0#16, div := c.prescale[0] }) ∧
    (∀ ch : Fin 4, (Devices.atReset c).dma[ch.val] = { src := 0#32, dst := 0#32, count := 0#16, ctrl := 0#16, active := false }) :=
  ⟨fun n => Vector.getElem_replicate n.isLt, fun ch => Vector.getElem_replicate ch.isLt⟩

/-- Settles O58: the reset state, which the call gives too, with the images as a filter keeps them. -/
theorem resetState : Obligations.ResetState := by
  unfold Obligations.ResetState
  refine ⟨?_, fun s => ⟨_, rfl, fun k hk => ?_⟩, rfl, rfl⟩
  · rintro c t (rfl | ⟨s, rfl, ⟨⟩⟩)
    all_goals exact ⟨rfl, rfl, rfl, rfl, rfl, rfl, rfl, rfl, rfl, rfl, (resetWith_devices _).1, (resetWith_devices _).2, rfl, rfl⟩
  · exact (memGet_filter (imageKey s.cfg) s.mem k).trans (if_pos hk)

end Sys2Proof.Machine
end

section
/-! SUPPORT. O53 (spec/60_exceptions.md R565 to R569): one unit of a transfer whose destination is outside the register window, a run of such
units by induction on their number, and the completion of a channel. -/

namespace Sys2Proof.Machine

open Sys2Proof.Claims

/-! ## Addresses -/

/-- A move is an addition of the increment (R565, R569). -/
theorem add_dmaDelta (mode : BitVec 2) (unit : Width) (a : Word) : a + dmaDelta mode unit = dmaMove mode unit a := by
  obtain rfl | rfl | rfl | rfl : mode = 0#2 ∨ mode = 1#2 ∨ mode = 2#2 ∨ mode = 3#2 := by bv_omega
  · rfl
  · change a + (0#32 - _) = a - _
    rw [BitVec.zero_sub, BitVec.sub_eq_add_neg]
  · exact BitVec.add_zero a
  · rfl

/-- A channel after one unit. -/
def DmaChannel.moved (unit : Width) (c : DmaChannel) : DmaChannel :=
  { c with src := dmaMove c.srcMode unit c.src, dst := dmaMove c.dstMode unit c.dst }

/-- The source and the destination of a channel's `k`-th unit from a state on. -/
def dmaSrc (ch : Fin 4) (unit : Width) (s : State) (k : Nat) : Word := dmaMoves s.dev.dma[ch.val].srcMode unit k s.dev.dma[ch.val].src

def dmaDst (ch : Fin 4) (unit : Width) (s : State) (k : Nat) : Word := dmaMoves s.dev.dma[ch.val].dstMode unit k s.dev.dma[ch.val].dst

/-- The first `n` units are stored outside the register window. -/
def StoresOutside (ch : Fin 4) (unit : Width) (n : Nat) (s : State) : Prop := ∀ k, k < n → ¬ inWindow s.cfg (dmaDst ch unit s k) unit

/-! ## One unit -/

theorem setDma_setDma (n : Fin 4) (c c' : DmaChannel) (d : Devices) : setDma n c (setDma n c' d) = setDma n c d := by
  simp only [setDma, Vector.set_set]

section
variable {ch : Fin 4} {unit : Width} {s : State}

/-- A unit stored outside the window: the value read before it stands as a write leaves it, the channel has moved, and no device is
written. -/
theorem dmaUnit_of_outside (h : ¬ inWindow s.cfg (dmaDst ch unit s 0) unit) :
    (dmaUnit ch unit s).mem = (memWrite (dmaDst ch unit s 0) unit (memRead (dmaSrc ch unit s 0) unit s).1 s).mem ∧
    (dmaUnit ch unit s).dev = setDma ch (s.dev.dma[ch.val].moved unit) s.dev ∧
    (dmaUnit ch unit s).outputs = s.outputs ∧ (dmaUnit ch unit s).cfg = s.cfg := by
  let v := (memRead s.dev.dma[ch.val].src unit s).1
  let r := (memRead s.dev.dma[ch.val].src unit s).2
  have hunit : dmaUnit ch unit s = dmaStepAddresses ch unit (memWrite s.dev.dma[ch.val].dst unit v r) := by
    rw [← memRead_dev s.dev.dma[ch.val].src unit s]; rfl
  obtain ⟨hmem, hdev, hout⟩ := memWrite_congr s.dev.dma[ch.val].dst unit v (s := s) (t := r) (memRead_mem ..) (memRead_dev ..)
    (memRead_outputs ..) (memRead_cfg ..)
  obtain ⟨hdev', hout'⟩ := memWrite_dev_of_not_io s.dev.dma[ch.val].dst unit v s h
  rw [hunit]
  refine ⟨hmem, ?_, hout.trans hout', (memWrite_cfg ..).trans (memRead_cfg ..)⟩
  rw [dmaStepAddresses, hdev.trans hdev', add_dmaDelta, add_dmaDelta]; rfl

/-- The units after the first are those of the state it leaves. -/
theorem dmaSrc_dmaUnit (h : ¬ inWindow s.cfg (dmaDst ch unit s 0) unit) (k : Nat) :
    dmaSrc ch unit (dmaUnit ch unit s) k = dmaSrc ch unit s (k + 1) := by
  obtain ⟨_, hdev, _⟩ := dmaUnit_of_outside h
  rw [dmaSrc, hdev, setDma_dma_self]; rfl

theorem dmaDst_dmaUnit (h : ¬ inWindow s.cfg (dmaDst ch unit s 0) unit) (k : Nat) :
    dmaDst ch unit (dmaUnit ch unit s) k = dmaDst ch unit s (k + 1) := by
  obtain ⟨_, hdev, _⟩ := dmaUnit_of_outside h
  rw [dmaDst, hdev, setDma_dma_self]; rfl

theorem StoresOutside.head {n : Nat} (h : StoresOutside ch unit (n + 1) s) : ¬ inWindow s.cfg (dmaDst ch unit s 0) unit := h 0 (by omega)

theorem StoresOutside.tail {n : Nat} (h : StoresOutside ch unit (n + 1) s) : StoresOutside ch unit n (dmaUnit ch unit s) := by
  obtain ⟨_, _, _, hcfg⟩ := dmaUnit_of_outside h.head
  intro k hk
  rw [hcfg, dmaDst_dmaUnit h.head]
  exact h (k + 1) (by omega)

theorem dmaUnit_keepsBytes (h : ¬ inWindow s.cfg (dmaDst ch unit s 0) unit) :
    keepsBytes (storeKeys s.cfg (dmaDst ch unit s 0) unit) s (dmaUnit ch unit s) := by
  obtain ⟨hmem, _⟩ := dmaUnit_of_outside h
  intro key hkey
  rw [hmem]; exact memWrite_keepsBytes _ unit _ s key hkey

theorem dmaUnit_bytesAt (h : ¬ inWindow s.cfg (dmaDst ch unit s 0) unit) (hstore : inStore s.cfg (dmaDst ch unit s 0) unit) :
    bytesAt (dmaUnit ch unit s).mem (unitKey s.cfg (dmaDst ch unit s 0) unit) (memRead (dmaSrc ch unit s 0) unit s).1 unit := by
  obtain ⟨hmem, _⟩ := dmaUnit_of_outside h
  rw [hmem]; exact memWrite_bytesAt _ unit _ s hstore

end

/-! ## A run of units -/

/-- A channel after `n` units. -/
def DmaChannel.movedBy (unit : Width) (n : Nat) (c : DmaChannel) : DmaChannel :=
  { c with src := dmaMoves c.srcMode unit n c.src, dst := dmaMoves c.dstMode unit n c.dst }

theorem DmaChannel.movedBy_moved (unit : Width) (n : Nat) (c : DmaChannel) : (c.moved unit).movedBy unit n = c.movedBy unit (n + 1) := rfl

theorem setDma_same (n : Fin 4) (d : Devices) : setDma n d.dma[n.val] d = d := by
  simp only [setDma, Vector.set_getElem_self]

/-- A run outside the window writes no device but the addresses of its channel. -/
theorem dmaUnitsRun_dev {ch : Fin 4} {unit : Width} (n : Nat) {s : State} (h : StoresOutside ch unit n s) :
    (dmaUnitsRun n ch unit s).dev = setDma ch (s.dev.dma[ch.val].movedBy unit n) s.dev ∧ (dmaUnitsRun n ch unit s).outputs = s.outputs := by
  induction n generalizing s with
  | zero => exact ⟨(setDma_same ch s.dev).symm, rfl⟩
  | succ n ih =>
    obtain ⟨_, hdev, hout, _⟩ := dmaUnit_of_outside h.head
    obtain ⟨hdev', hout'⟩ := ih h.tail
    rw [hdev, setDma_dma_self, setDma_setDma, DmaChannel.movedBy_moved] at hdev'
    exact ⟨hdev', hout'.trans hout⟩

/-- No byte outside the units stored to changes. -/
theorem dmaUnitsRun_keepsBytes {ch : Fin 4} {unit : Width} (n : Nat) {s : State} (h : StoresOutside ch unit n s) {key : Nat}
    (hkey : ∀ k, k < n → key ∉ storeKeys s.cfg (dmaDst ch unit s k) unit) :
    memGet (dmaUnitsRun n ch unit s).mem key = memGet s.mem key := by
  induction n generalizing s with
  | zero => rfl
  | succ n ih =>
    obtain ⟨_, _, _, hcfg⟩ := dmaUnit_of_outside h.head
    refine (ih h.tail fun k hk => ?_).trans (dmaUnit_keepsBytes h.head key (hkey 0 (by omega)))
    rw [hcfg, dmaDst_dmaUnit h.head]
    exact hkey (k + 1) (by omega)

/-- The bytes of a unit are those of no unit apart from it. -/
theorem notMem_storeKeys_of_apart {cfg : Cfg} {a b : Word} {n : Width} (h : inStore cfg b n → apart cfg b a n) {j : Nat}
    (hj : j < n.bytes) : unitKey cfg a n + j ∉ storeKeys cfg b n := by
  intro hmem
  obtain ⟨hstore, hlow, hhigh⟩ := inStore_of_mem_storeKeys hmem
  have hapart := h hstore
  rw [apart] at hapart
  omega

theorem loadBytes_congr {m m' : List Host.Cell} {key : Nat} {n : Width} (h : ∀ j, j < n.bytes → memGet m' (key + j) = memGet m (key + j)) :
    loadBytes m' key n = loadBytes m key n := by
  refine BitVec.eq_of_getLsbD_eq fun j _ => ?_
  rw [loadBytes_getLsbD, loadBytes_getLsbD]
  by_cases hj : j < 8 * n.bytes
  · rw [h (j / 8) (by omega)]
  · simp [hj]

/-- A plain unit apart from the first one stored to reads as before. -/
theorem memRead_dmaUnit {ch : Fin 4} {unit : Width} {s : State} (h : ¬ inWindow s.cfg (dmaDst ch unit s 0) unit) {a : Word}
    (hplain : plain s.cfg a unit) (hapart : inStore s.cfg (dmaDst ch unit s 0) unit → apart s.cfg (dmaDst ch unit s 0) a unit) :
    (memRead a unit (dmaUnit ch unit s)).1 = (memRead a unit s).1 := by
  obtain ⟨_, _, _, hcfg⟩ := dmaUnit_of_outside h
  have hplain' : plain (dmaUnit ch unit s).cfg a unit := by rw [hcfg]; exact hplain
  rw [memRead_value_plain a unit s hplain, memRead_value_plain a unit _ hplain', hcfg]
  exact loadBytes_congr fun j hj => dmaUnit_keepsBytes h _ (notMem_storeKeys_of_apart hapart hj)

/-- The `k`-th unit of a run, which no later unit overwrites, holds what its source gave before the run. -/
theorem dmaUnitsRun_bytesAt {ch : Fin 4} {unit : Width} (n k : Nat) {s : State} (h : StoresOutside ch unit n s) (hk : k < n)
    (hstore : inStore s.cfg (dmaDst ch unit s k) unit) (hlasts : lasts s.cfg (dmaDst ch unit s) n k unit)
    (hsource : k = 0 ∨ (plain s.cfg (dmaSrc ch unit s k) unit ∧
      ∀ j, j < k → inStore s.cfg (dmaDst ch unit s j) unit → apart s.cfg (dmaDst ch unit s j) (dmaSrc ch unit s k) unit)) :
    bytesAt (dmaUnitsRun n ch unit s).mem (unitKey s.cfg (dmaDst ch unit s k) unit) (memRead (dmaSrc ch unit s k) unit s).1 unit := by
  induction n generalizing k s with
  | zero => omega
  | succ n ih =>
    obtain ⟨_, _, _, hcfg⟩ := dmaUnit_of_outside h.head
    cases k with
    | zero =>
      intro j hj
      rw [← dmaUnit_bytesAt h.head hstore j hj]
      refine dmaUnitsRun_keepsBytes n h.tail fun i hi => ?_
      rw [hcfg, dmaDst_dmaUnit h.head]
      exact notMem_storeKeys_of_apart (hlasts (i + 1) (by omega) (by omega)) hj
    | succ k =>
      obtain ⟨hplain, hapart⟩ := hsource.resolve_left (by omega)
      have hrest := ih k h.tail (by omega)
      simp only [hcfg, dmaDst_dmaUnit h.head, dmaSrc_dmaUnit h.head, memRead_dmaUnit h.head hplain (hapart 0 (by omega))] at hrest
      refine hrest hstore (fun j hj hn => ?_) (.inr ⟨hplain, fun j hj => hapart (j + 1) (by omega)⟩)
      simp only [dmaDst_dmaUnit h.head]
      exact hlasts (j + 1) (by omega) (by omega)

/-! ## The run of a channel -/

/-- A completed channel: not active, and enabled only where it repeats on a trigger (R567). -/
def DmaChannel.completed (c : DmaChannel) : DmaChannel :=
  { c with
    active := false
    ctrl := if c.ctrl.getLsbD 9 = true ∧ c.ctrl.extractLsb' 12 2 ≠ 0#2 then c.ctrl else c.ctrl &&& 0x7FFF#16 }

/-- Completion writes its channel, and the request where the channel asks for it (R567). -/
theorem dmaComplete_eq (ch : Fin 4) (s : State) :
    dmaComplete ch s = { s with dev := { setDma ch s.dev.dma[ch.val].completed s.dev with
      ifr := if s.dev.dma[ch.val].ctrl.getLsbD 14 then s.dev.ifr ||| (1#16 <<< (s.cfg.irqBit.dma[ch.val]).val) else s.dev.ifr } } := by
  have hrearm : (if (s.dev.dma[ch.val].repeats && s.dev.dma[ch.val].trigger != 0#2) = true then s.dev.dma[ch.val].ctrl
      else s.dev.dma[ch.val].ctrl &&& 0x7FFF#16) = s.dev.dma[ch.val].completed.ctrl := by
    simp [DmaChannel.completed, DmaChannel.repeats, DmaChannel.trigger]
  simp only [dmaComplete, hrearm]
  rw [setRequestIf_eq]; rfl

/-- The devices after a run outside the window. -/
theorem dmaRun_dev {ch : Fin 4} {s : State} (h : StoresOutside ch s.dev.dma[ch.val].unit (dmaUnits s.cfg ch s.dev.dma[ch.val]) s) :
    let x := s.dev.dma[ch.val]
    (dmaRun ch s).dev = { setDma ch (x.movedBy x.unit (dmaUnits s.cfg ch x)).completed s.dev with
      ifr := if x.ctrl.getLsbD 14 then s.dev.ifr ||| (1#16 <<< (s.cfg.irqBit.dma[ch.val]).val) else s.dev.ifr } := by
  intro x
  obtain ⟨hdev, _⟩ := dmaUnitsRun_dev _ h
  have hcfg : (dmaUnitsRun (dmaUnits s.cfg ch x) ch x.unit s).cfg = s.cfg := by
    obtain ⟨_, _, _, _, _, _, hrun, _⟩ := dmaUnitsRun_only (dmaUnits s.cfg ch x) ch x.unit s
    rw [hrun]
  change (dmaComplete ch (dmaUnitsRun (dmaUnits s.cfg ch x) ch x.unit s)).dev = _
  rw [dmaComplete_eq, hcfg, hdev, setDma_dma_self, setDma_setDma]
  rfl

/-- Settles O53: the units of the run, then the completion. -/
theorem dmaTransfer : Obligations.DmaTransfer := by
  unfold Obligations.DmaTransfer
  intro ch s x n src dst t hout
  obtain ⟨_, houtputs⟩ := dmaUnitsRun_dev (ch := ch) (unit := x.unit) n (s := s) hout
  have hdev := dmaRun_dev (ch := ch) (s := s) hout
  have hend : t = dmaComplete ch (dmaUnitsRun n ch x.unit s) := rfl
  have hmem : t.mem = (dmaUnitsRun n ch x.unit s).mem := by rw [hend, dmaComplete_eq]
  have hkept : t.regs = s.regs ∧ t.pc = s.pc ∧ t.cpsr = s.cpsr ∧ t.spsr = s.spsr ∧ t.cfg = s.cfg ∧ t.inputs = s.inputs := by
    obtain ⟨_, _, _, _, _, _, hrun, _⟩ := dmaRun_only ch s
    change t = _ at hrun
    rw [hrun]; exact ⟨rfl, rfl, rfl, rfl, rfl, rfl⟩
  obtain ⟨hregs, hpc, hcpsr, hspsr, hcfg, hin⟩ := hkept
  change t.dev = _ at hdev
  rw [hdev, hmem]
  refine ⟨setDma_dma_self .., rfl, fun c' hne => setDma_dma_ne ch c' _ s.dev hne.symm, rfl, rfl, rfl, rfl, rfl, ?_, hregs, hpc, hcpsr, hspsr,
    hcfg, hin, fun key hkey => ?_, fun k hk hstore hlasts hsource => ?_⟩
  · rw [hend, dmaComplete_eq]; exact houtputs
  · rw [hmem]
    exact dmaUnitsRun_keepsBytes n hout fun k hk hin => hkey (List.mem_flatMap.mpr ⟨k, List.mem_range.mpr hk, hin⟩)
  · exact dmaUnitsRun_bytesAt n k hout hk hstore hlasts hsource

end Sys2Proof.Machine
end

section
/-! SUPPORT. O54 (spec/60_exceptions.md R565, R566, R571): a run costs the same whatever has been counted before it, the four turns as a chain
of states, and the enabled channels. -/

namespace Sys2Proof.Machine

open Sys2Proof.Claims

/-! ## The count -/

/-- Cycles counted before an operation. -/
def State.spent (k : Nat) (s : State) : State := { s with cycles := k + s.cycles }

theorem noteAccess_spent (k : Nat) (a : Word) (n : Width) (s : State) : noteAccess a n (s.spent k) = (noteAccess a n s).spent k := by
  simp only [noteAccess, State.spent, Nat.add_assoc]

theorem ioRead16_spent (k off : Nat) (s : State) : ioRead16 off (s.spent k) = ((ioRead16 off s).1, (ioRead16 off s).2.spent k) := by
  have hdev : (s.spent k).dev = s.dev := rfl
  have hcfg : (s.spent k).cfg = s.cfg := rfl
  simp only [ioRead16, hdev, hcfg]
  split <;> rfl

theorem ioRead_spent (k off : Nat) (n : Width) (s : State) : ioRead off n (s.spent k) = ((ioRead off n s).1, (ioRead off n s).2.spent k) := by
  cases n <;> simp only [ioRead, ioRead16_spent]

theorem ioWrite16_spent (k off : Nat) (v : Half) (be : BitVec 2) (s : State) :
    ioWrite16 off v be (s.spent k) = (ioWrite16 off v be s).spent k := by
  unfold ioWrite16
  have hcfg : (s.spent k).cfg = s.cfg := rfl
  rw [hcfg]
  split <;> rfl

theorem ioWrite_spent (k off : Nat) (n : Width) (v : Word) (s : State) : ioWrite off n v (s.spent k) = (ioWrite off n v s).spent k := by
  cases n <;> simp only [ioWrite, ioWrite16_spent]

theorem memRead_spent (k : Nat) (a : Word) (n : Width) (s : State) : memRead a n (s.spent k) = ((memRead a n s).1, (memRead a n s).2.spent k) := by
  have hcfg : (s.spent k).cfg = s.cfg := rfl
  unfold memRead
  simp only [noteAccess_spent, hcfg, ioRead_spent]
  split <;> rfl

theorem memWrite_spent (k : Nat) (a : Word) (n : Width) (v : Word) (s : State) :
    memWrite a n v (s.spent k) = (memWrite a n v s).spent k := by
  have hcfg : (s.spent k).cfg = s.cfg := rfl
  unfold memWrite
  simp only [noteAccess_spent, hcfg, ioWrite_spent]
  split <;> rfl

theorem dmaUnit_spent (k : Nat) (ch : Fin 4) (unit : Width) (s : State) : dmaUnit ch unit (s.spent k) = (dmaUnit ch unit s).spent k := by
  have hdev : ∀ u : State, (u.spent k).dev = u.dev := fun _ => rfl
  simp only [dmaUnit, hdev, memRead_spent, memWrite_spent]
  rfl

theorem dmaUnitsRun_spent (k n : Nat) (ch : Fin 4) (unit : Width) (s : State) :
    dmaUnitsRun n ch unit (s.spent k) = (dmaUnitsRun n ch unit s).spent k := by
  induction n generalizing s with
  | zero => rfl
  | succ n ih => rw [dmaUnitsRun, dmaUnit_spent, ih]; rfl

/-- A run costs the same whatever has been counted before it. -/
theorem dmaRun_spent (k : Nat) (ch : Fin 4) (s : State) : dmaRun ch (s.spent k) = (dmaRun ch s).spent k := by
  have hrun := dmaUnitsRun_spent k (dmaUnits s.cfg ch s.dev.dma[ch.val]) ch s.dev.dma[ch.val].unit s
  change dmaComplete ch (dmaUnitsRun _ ch _ (s.spent k)) = _
  rw [show (s.spent k).dev = s.dev from rfl, show (s.spent k).cfg = s.cfg from rfl, hrun]
  rfl

/-! ## The turns -/

/-- A turn runs its channel where that is active and enabled, and adds the run's own cost and the overhead (R566). -/
theorem dmaChannelTurn_eq (ch : Fin 4) {c : Cfg} {s : State} (hc : s.cfg = c) :
    let x := s.dev.dma[ch.val]
    let ran := dmaRun ch { s with cycles := 0 }
    dmaChannelTurn ch s = if x.active = true ∧ x.ctrl.getLsbD 15 = true then
      { ran with cycles := s.cycles + (ran.cycles + c.dmaOverheadCycles) } else s := by
  intro x ran
  subst hc
  have hran : dmaRun ch s = ran.spent s.cycles := dmaRun_spent s.cycles ch { s with cycles := 0 }
  simp only [dmaChannelTurn, hran, State.spent, DmaChannel.enabled, Bool.and_eq_true, Nat.add_assoc]
  rfl

/-- The state after the first turns of a `dma_advance`. -/
def dmaAfterTurns (s : State) : Nat → State
  | 0 => { s with cycles := 0 }
  | k + 1 => dmaChannelTurn (Fin.ofNat 4 k) (dmaAfterTurns s k)

theorem dmaAfterTurns_four (s : State) : dmaAfterTurns s 4 = dmaAdvance s := rfl

theorem dmaAfterTurns_cfg (s : State) (k : Nat) : (dmaAfterTurns s k).cfg = s.cfg := by
  induction k with
  | zero => rfl
  | succ k ih =>
    obtain ⟨_, _, _, _, _, _, h, _⟩ := dmaChannelTurn_only (Fin.ofNat 4 k) (dmaAfterTurns s k)
    rw [dmaAfterTurns, h]; exact ih

theorem dmaChannelTurn_of_inactive {ch : Fin 4} {s : State} (h : s.dev.dma[ch.val].active = false) : dmaChannelTurn ch s = s := by
  simp only [dmaChannelTurn, h, Bool.false_and, Bool.false_eq_true, if_false]

/-! ## Active channels are enabled -/

theorem dmaOk_ioRegWrite {cfg : Cfg} {d : Devices} (h : d.dmaOk) (r : IoReg) (v : Half) (be : BitVec 2) : (ioRegWrite cfg r v be d).dmaOk := by
  cases r with
  | ie | ifr | dispstat | vcount | ime | other | timerData | timerCtrl => exact h
  | dmaReg ch r => exact dmaOk_dmaWriteReg h ch r v _
  | dmaCtrl ch => exact dmaOk_dmaWriteCtrl h ch _

theorem dmaOk_ioWrite16 {s : State} (h : s.dev.dmaOk) (off : Nat) (v : Half) (be : BitVec 2) : (ioWrite16 off v be s).dev.dmaOk := by
  unfold ioWrite16
  split
  · exact h
  · exact dmaOk_ioRegWrite h _ v be

theorem dmaOk_ioWrite {s : State} (h : s.dev.dmaOk) (off : Nat) (n : Width) (v : Word) : (ioWrite off n v s).dev.dmaOk := by
  cases n with
  | byte | half => exact dmaOk_ioWrite16 h _ _ _
  | word => exact dmaOk_ioWrite16 (dmaOk_ioWrite16 h _ _ _) _ _ _

theorem dmaOk_memWrite {s : State} (h : s.dev.dmaOk) (a : Word) (n : Width) (v : Word) : (memWrite a n v s).dev.dmaOk := by
  simp only [memWrite]
  split
  case h_4 => exact dmaOk_ioWrite (s := noteAccess (alignDown a n) n s) h _ n v
  all_goals exact h

theorem dmaOk_dmaUnit {s : State} (h : s.dev.dmaOk) (ch : Fin 4) (unit : Width) : (dmaUnit ch unit s).dev.dmaOk := by
  have hread : (memRead s.dev.dma[ch.val].src unit s).2.dev.dmaOk := by rw [memRead_dev]; exact h
  have hwrite := dmaOk_memWrite hread (memRead s.dev.dma[ch.val].src unit s).2.dev.dma[ch.val].dst unit
    (memRead s.dev.dma[ch.val].src unit s).1
  exact dmaOk_setDma hwrite ch (hwrite ch)

theorem dmaOk_dmaUnitsRun {s : State} (h : s.dev.dmaOk) (n : Nat) (ch : Fin 4) (unit : Width) : (dmaUnitsRun n ch unit s).dev.dmaOk := by
  induction n generalizing s with
  | zero => exact h
  | succ n ih => exact ih (dmaOk_dmaUnit h ch unit)

theorem dmaOk_dmaRun {s : State} (h : s.dev.dmaOk) (ch : Fin 4) : (dmaRun ch s).dev.dmaOk := by
  change (dmaComplete ch (dmaUnitsRun _ ch _ s)).dev.dmaOk
  rw [dmaComplete_eq]
  exact dmaOk_setDma (dmaOk_dmaUnitsRun h _ ch _) ch fun hactive => absurd hactive Bool.false_ne_true

theorem dmaRun_inactive (ch : Fin 4) (s : State) : (dmaRun ch s).dev.dma[ch.val].active = false := by
  change ((dmaComplete ch (dmaUnitsRun _ ch _ s)).dev.dma[ch.val]).active = false
  rw [dmaComplete_eq]
  exact congrArg DmaChannel.active (setDma_dma_self ..)

theorem dmaOk_dmaChannelTurn {s : State} (h : s.dev.dmaOk) (ch : Fin 4) : (dmaChannelTurn ch s).dev.dmaOk := by
  simp only [dmaChannelTurn]
  split
  · exact dmaOk_dmaRun h ch
  · exact h

/-- A channel that is enabled when active is inactive after its turn. -/
theorem dmaChannelTurn_inactive {s : State} (h : s.dev.dmaOk) (ch : Fin 4) : (dmaChannelTurn ch s).dev.dma[ch.val].active = false := by
  simp only [dmaChannelTurn]
  split
  · exact dmaRun_inactive ch s
  · next hrun =>
    have := h ch
    cases hactive : s.dev.dma[ch.val].active with
    | false => rfl
    | true => exact absurd (by rw [hactive, this hactive]; rfl) hrun

theorem dmaOk_dmaAfterTurns {s : State} (h : s.dev.dmaOk) (k : Nat) : (dmaAfterTurns s k).dev.dmaOk := by
  induction k with
  | zero => exact h
  | succ k ih => exact dmaOk_dmaChannelTurn ih _

/-- Settles O54: the chain of the four turns. -/
theorem dmaAdvanceResult : Obligations.DmaAdvance := by
  unfold Obligations.DmaAdvance
  refine fun s => ⟨⟨fun i => dmaAfterTurns s i.val, rfl, dmaAfterTurns_four s, fun ch => ?_⟩, fun h => ?_, fun h => ?_⟩
  · have hch : Fin.ofNat 4 ch.val = ch := Fin.ext (Nat.mod_eq_of_lt ch.isLt)
    change dmaChannelTurn (Fin.ofNat 4 ch.val) (dmaAfterTurns s ch.val) = _
    rw [hch]; exact dmaChannelTurn_eq ch (dmaAfterTurns_cfg s ch.val)
  · have hturn : ∀ ch : Fin 4, dmaChannelTurn ch { s with cycles := 0 } = { s with cycles := 0 } := fun ch => dmaChannelTurn_of_inactive (h ch)
    rw [dmaAdvance, hturn, hturn, hturn, hturn]
  · exact dmaChannelTurn_inactive (dmaOk_dmaAfterTurns h 3) 3

end Sys2Proof.Machine
end
